-- ==== Sys2Proof/Word.lean ====
section
/-! DEFINITION. The widths the spec names: nibbles (palette indices), bytes, RGB565 words and 32-bit
register words (spec/00_scope.md R10). -/

namespace Sys2Proof

/-- A palette index: one 4-bit pixel (R55). -/
abbrev Nibble := BitVec 4

/-- One byte of the surface, of SROM or of the batch buffer (R20, R22, R24). -/
abbrev Byte := BitVec 8

/-- One RGB565 colour word (R21, R100). -/
abbrev Rgb565 := BitVec 16

/-- A register, a command word, or a glyph row word (R23, R51, R80). -/
abbrev Word := BitVec 32

end Sys2Proof
end

