-- ==== Sys2Proof/Syntax.lean ====
section
/-! DEFINITION. The commands of spec/30_encoding.md R85, one constructor per row of
spec/opcode_table.json, with the operands R83 assembles from IMM. -/

namespace Sys2Proof

/-- A command of the block (R85). Coordinates are no operand here: they are in ARG_XY (R84). -/
inductive Instr where
  /-- CLEAR: `clear()` (R120). -/
  | clear
  /-- FADE: `fade()` (R121). -/
  | fade
  /-- SCROLL: `scroll(delta_rows)`, `delta_rows = sext_16(IMM)` (R83, R122). -/
  | scroll (delta : Int)
  /-- SPR: sprite k, opaque, 1x (R144). -/
  | spr (k : Nat)
  /-- SPRB: sprite k, blended, 1x (R145). -/
  | sprb (k : Nat)
  /-- SPR2: sprite k, opaque, 2x (R146). -/
  | spr2 (k : Nat)
  /-- SPRB2: sprite k, blended, 2x (R147). -/
  | sprb2 (k : Nat)
  /-- GLYPH: `draw_glyph(code, x, y)` (R150). -/
  | glyph (code : Nat)
  /-- MCLR: start of `measure_text` (R151). -/
  | mclr
  /-- MADD: one code of `measure_text` (R152). -/
  | madd (code : Nat)
  /-- BEGIN: `begin_render()` (R184). -/
  | begin
  /-- BATCH: `produce_batch(out_buffer)` (R185). -/
  | batch
  /-- SEND: forward the filled chunk (R192). -/
  | send
  /-- ADDR: the transport handshake (R193). -/
  | addr
  /-- FRAME: one whole render pass and its transfer (R194). -/
  | frame
  deriving DecidableEq, Repr

end Sys2Proof
end

