-- ==== Sys2Proof/WellFormed.lean ====
section
/-! DEFINITION. Which commands have an encoding: the immediate is in the range of its 16-bit field
(spec/30_encoding.md R83; R89: "An immediate out of the field's range is an assembly error"). -/

namespace Sys2Proof

/-- R83: the immediate fits IMM, as a signed field for SCROLL and an unsigned one for the others. -/
def Instr.wf : Instr → Bool
  | .scroll d => decide (-32768 ≤ d) && decide (d ≤ 32767)
  | .spr k => decide (k < 65536)
  | .sprb k => decide (k < 65536)
  | .spr2 k => decide (k < 65536)
  | .sprb2 k => decide (k < 65536)
  | .glyph code => decide (code < 65536)
  | .madd code => decide (code < 65536)
  | .clear => true
  | .fade => true
  | .mclr => true
  | .begin => true
  | .batch => true
  | .send => true
  | .addr => true
  | .frame => true

end Sys2Proof
end

