-- ==== Sys2Proof/Decode.lean ====
section
/-! DEFINITION. The decoder of spec/30_encoding.md R88, total on every 32-bit word and rejecting by
name, and the encoder, written from the table of R85. -/

namespace Sys2Proof

/-- Why a command word is illegal (R86). -/
inductive DecodeError where
  /-- R86 (a): OPC is none of the 15 values of R85. -/
  | unknownOpcode
  /-- R86 (b): a bit that the format requires to be 0 is 1. -/
  | reservedBit
  deriving DecidableEq, Repr

/-- The field OPC, bits [31:24] (R81). -/
def opcField (w : Word) : BitVec 8 := w.extractLsb' 24 8

/-- The field RSV, bits [23:16] (R81). -/
def rsvField (w : Word) : BitVec 8 := w.extractLsb' 16 8

/-- The field IMM, bits [15:0] (R81). -/
def immField (w : Word) : BitVec 16 := w.extractLsb' 0 16

/-- The commands of format N, by opcode (R85, R88). -/
def formatN (opc : BitVec 8) : Option Instr :=
  match opc.toNat with
  | 0x01 => some .clear
  | 0x02 => some .fade
  | 0x21 => some .mclr
  | 0x30 => some .begin
  | 0x31 => some .batch
  | 0x32 => some .send
  | 0x33 => some .addr
  | 0x34 => some .frame
  | _ => none

/-- The commands of format I, by opcode, with the operand R83 assembles from IMM. -/
def formatI (opc : BitVec 8) (imm : BitVec 16) : Option Instr :=
  match opc.toNat with
  | 0x03 => some (.scroll imm.toInt)
  | 0x10 => some (.spr imm.toNat)
  | 0x11 => some (.sprb imm.toNat)
  | 0x12 => some (.spr2 imm.toNat)
  | 0x13 => some (.sprb2 imm.toNat)
  | 0x20 => some (.glyph imm.toNat)
  | 0x22 => some (.madd imm.toNat)
  | _ => none

/-- R88: the command a word is, or why it is illegal. -/
def decode (w : Word) : Except DecodeError Instr :=
  match formatN (opcField w) with
  | some i => if rsvField w = 0#8 ∧ immField w = 0#16 then .ok i else .error .reservedBit
  | none =>
    match formatI (opcField w) (immField w) with
    | some i => if rsvField w = 0#8 then .ok i else .error .reservedBit
    | none => .error .unknownOpcode

/-- The opcode of a command (R85). -/
def opcode : Instr → BitVec 8
  | .clear => 0x01#8
  | .fade => 0x02#8
  | .scroll _ => 0x03#8
  | .spr _ => 0x10#8
  | .sprb _ => 0x11#8
  | .spr2 _ => 0x12#8
  | .sprb2 _ => 0x13#8
  | .glyph _ => 0x20#8
  | .mclr => 0x21#8
  | .madd _ => 0x22#8
  | .begin => 0x30#8
  | .batch => 0x31#8
  | .send => 0x32#8
  | .addr => 0x33#8
  | .frame => 0x34#8

/-- The immediate of a command, 0 in format N (R81, R83). -/
def immediate : Instr → BitVec 16
  | .scroll d => BitVec.ofInt 16 d
  | .spr k => BitVec.ofNat 16 k
  | .sprb k => BitVec.ofNat 16 k
  | .spr2 k => BitVec.ofNat 16 k
  | .sprb2 k => BitVec.ofNat 16 k
  | .glyph code => BitVec.ofNat 16 code
  | .madd code => BitVec.ofNat 16 code
  | .clear => 0#16
  | .fade => 0#16
  | .mclr => 0#16
  | .begin => 0#16
  | .batch => 0#16
  | .send => 0#16
  | .addr => 0#16
  | .frame => 0#16

/-- The command word of a command: OPC, RSV = 0, IMM (R81, R82). -/
def encode (i : Instr) : Word := opcode i ++ 0#8 ++ immediate i

/-- What the decoder reads from the word whose `nbits` table bits are `w`: bits above them are 0. A
command is one 32-bit word (R80), so bits from 32 up do not exist. -/
def decodeTableWord (nbits w : Nat) : Option Instr :=
  match decode (BitVec.ofNat 32 (w % 2 ^ nbits)) with
  | .ok i => some i
  | .error _ => none

end Sys2Proof
end

