-- ==== Sys2Proof/Config.lean ====
section
/-! DEFINITION. The implementation parameters of spec/00_scope.md R6, as one record of plain data, the
test configurations of spec/95_test_vectors.md section 0, and the free values the spec leaves open.
What is derived from a configuration, and which configurations are admitted (R7 to R9), is in
Machine/Geometry.lean. -/

namespace Sys2Proof

/-- R6, parameter GLYPH_BIT_ORDER: which bit of a glyph row word is column 0. -/
inductive GlyphBitOrder where
  | lsbFirst
  | msbFirst
  deriving DecidableEq, Repr

/-- R6, parameter SCALE2X_ROW2: how the second output row of a 2x blended sprite row is formed. -/
inductive Scale2xRow2 where
  | copyRow1
  | blendIndependent
  deriving DecidableEq, Repr

/-- A sprite or glyph descriptor `(w, h, off)`, 16-bit unsigned each (R6, R22, R23). -/
structure Descriptor where
  w   : BitVec 16
  h   : BitVec 16
  off : BitVec 16
  deriving DecidableEq, Repr

/-- The parameters of R6, each under the spec's name. DISPLAY_CMD_ENCODING is a function and stands
below, uninterpreted. -/
structure Config where
  /-- `SS`, the supersampling factor. -/
  ss           : Nat
  /-- `NW`, the native display width in pixels. -/
  nw           : Nat
  /-- `NH`, the native display height in pixels. -/
  nh           : Nat
  /-- `CHUNK_BYTES`, the transport chunk size. -/
  chunkBytes   : Nat
  /-- `PALETTE[0..15]`. -/
  palette      : List Rgb565
  /-- `SPRITES`. -/
  sprites      : List Descriptor
  /-- `SROM`, the sprite pixel-data table. -/
  srom         : List Byte
  /-- `FIRST_CODE`. -/
  firstCode    : Nat
  /-- `LAST_CODE`. -/
  lastCode     : Nat
  /-- `GLYPHS`, indexed by code less FIRST_CODE. -/
  glyphs       : List Descriptor
  /-- `GROM`, the glyph bitmap table. -/
  grom         : List Word
  /-- `GLYPH_INK_EVEN`. -/
  glyphInkEven : Nibble
  /-- `GLYPH_INK_ODD`. -/
  glyphInkOdd  : Nibble
  /-- `GLYPH_BIT_ORDER`. -/
  glyphOrder   : GlyphBitOrder
  /-- `SCALE2X_ROW2`. -/
  row2         : Scale2xRow2
  /-- `PFB_BASE`, the bus address of the register block. -/
  base         : Nat
  deriving DecidableEq, Repr

/-- FREE VALUE. `powerOnSurf n i` is surface byte i after the n-th reset: "every byte is an arbitrary
value (each byte an independent draw)" (R20, R48, 93 V1). Nothing constrains it. Log 5. -/
opaque Config.powerOnSurf : Nat → Nat → Byte

/-- FREE VALUE. `powerOnBatch n i` is batch buffer byte i after the n-th reset (R24, R48, 93 V2).
Log 5. -/
opaque Config.powerOnBatch : Nat → Nat → Byte

/-- FREE VALUE. `displayCmdEncoding row a b` is the byte spelling of "set row range [a, b]" (row = true)
or "set column range [a, b]" on the panel's bus: parameter DISPLAY_CMD_ENCODING of R6, which the
excluded collaborator owns (R4 (b), R180). No step reads it. Log 13. -/
opaque Config.displayCmdEncoding : Bool → Nat → Nat → List Byte

/-- The test palette TP (95_test_vectors section 0). -/
def Config.testPalette : List Rgb565 :=
  [0x0000#16, 0xF800#16, 0x07E0#16, 0x001F#16, 0x4228#16, 0x52AA#16, 0x632C#16, 0x73AE#16] ++
  [0x8C51#16, 0x9CD3#16, 0xAD55#16, 0xBDD7#16, 0xCE79#16, 0xDEFB#16, 0xEF7D#16, 0xFFFF#16]

/-- The test configuration TC1 (95_test_vectors section 0). The spec leaves the device's own
configuration OPEN (R6); State.reset is built with this one (DESIGN CHOICE, log 6). -/
def Config.tc1 : Config where
  ss := 1
  nw := 8
  nh := 8
  chunkBytes := 16
  palette := Config.testPalette
  sprites := [⟨4#16, 2#16, 0#16⟩, ⟨3#16, 1#16, 4#16⟩, ⟨2#16, 10#16, 6#16⟩]
  srom := [0x21#8, 0x03#8, 0x40#8, 0x56#8, 0x7A#8, 0x0B#8] ++
    [0x11#8, 0x22#8, 0x33#8, 0x44#8, 0x55#8, 0x66#8, 0x77#8, 0x88#8, 0x99#8, 0xAA#8]
  firstCode := 0x30
  lastCode := 0x31
  glyphs := [⟨4#16, 5#16, 0#16⟩, ⟨3#16, 5#16, 20#16⟩]
  grom := [6#32, 9#32, 9#32, 9#32, 6#32, 2#32, 3#32, 2#32, 2#32, 7#32]
  glyphInkEven := 15#4
  glyphInkOdd := 15#4
  glyphOrder := .lsbFirst
  row2 := .copyRow1
  base := 0

/-- The test configuration TC2 (95_test_vectors section 0): 2x supersampling, the same assets. -/
def Config.tc2 : Config :=
  { Config.tc1 with ss := 2, nw := 4, nh := 2, chunkBytes := 8 }

end Sys2Proof
end

