-- ==== Sys2Proof/Machine/Geometry.lean ====
section
/-! DEFINITION. The derived quantities of spec/00_scope.md R7 and the admitted configurations of R6, R8
and R9. -/

namespace Sys2Proof

/-- `W_s`, the surface width in pixels (R7). -/
def Config.surfWidth (c : Config) : Nat := c.nw * c.ss

/-- `H_s`, the surface height in rows (R7). -/
def Config.surfHeight (c : Config) : Nat := c.nh * c.ss

/-- `S`, the surface row stride in bytes (R7). -/
def Config.stride (c : Config) : Nat := c.surfWidth / 2

/-- `SURF_BYTES` (R7). -/
def Config.surfBytes (c : Config) : Nat := c.stride * c.surfHeight

/-- `FRAME_OUT_BYTES` (R7). -/
def Config.frameOutBytes (c : Config) : Nat := c.nw * c.nh * 2

/-- `BATCH_PIXELS` (R7). -/
def Config.batchPixels (c : Config) : Nat := c.chunkBytes / 2

/-- `NB_FRAME`, batches per render pass (R7). -/
def Config.nbFrame (c : Config) : Nat := c.frameOutBytes / c.chunkBytes

/-- `SPRITE_COUNT` (R7). -/
def Config.spriteCount (c : Config) : Nat := c.sprites.length

/-- `GLYPH_COUNT` (R7). -/
def Config.glyphCount (c : Config) : Nat := c.lastCode - c.firstCode + 1

/-- The source bytes of one sprite row, `bw = ceil(w/2)` (R22, R140). -/
def Descriptor.rowBytes (d : Descriptor) : Nat := (d.w.toNat + 1) / 2

/-- The words of one glyph row, `ceil(w/32)` (R23). -/
def Descriptor.rowWords (d : Descriptor) : Nat := (d.w.toNat + 31) / 32

/-- R8 (a). -/
def Config.ssOk (c : Config) : Bool := decide (c.ss = 1 ∨ c.ss = 2)

/-- The legal values of NW, NH and PFB_BASE in R6. -/
def Config.rangesOk (c : Config) : Bool :=
  decide (1 ≤ c.nw ∧ c.nw ≤ 16383 ∧ 1 ≤ c.nh ∧ c.nh ≤ 16383 ∧ c.base % 128 = 0)

/-- R8 (b). -/
def Config.widthEven (c : Config) : Bool := decide (c.surfWidth % 2 = 0)

/-- R8 (c). -/
def Config.chunksExact (c : Config) : Bool := decide (c.surfBytes % c.chunkBytes = 0)

/-- R8 (d). -/
def Config.chunkOk (c : Config) : Bool := decide (4 ≤ c.chunkBytes ∧ c.chunkBytes % 4 = 0)

/-- R8 (e): at SS = 2 a native row is a whole number of chunks. -/
def Config.rowsExact (c : Config) : Bool := decide (c.ss = 2 → (2 * c.nw) % c.chunkBytes = 0)

/-- R8 (f). -/
def Config.sizesOk (c : Config) : Bool :=
  decide (c.surfWidth ≤ 32767 ∧ c.surfHeight ≤ 32767 ∧ c.surfBytes < 2 ^ 24 ∧ c.chunkBytes ≤ 65532 ∧
    c.nbFrame ≤ 65535)

/-- R8 (g), with the range of LAST_CODE in R6 and the length R23 gives GLYPHS. -/
def Config.tablesOk (c : Config) : Bool :=
  decide (1 ≤ c.spriteCount ∧ c.spriteCount ≤ 65536 ∧ c.firstCode ≤ c.lastCode ∧ c.lastCode ≤ 0xFFFF ∧
    c.glyphs.length = c.glyphCount)

/-- R9 (a): a sprite's rows lie inside SROM. -/
def Config.spriteOk (c : Config) (d : Descriptor) : Bool :=
  decide (d.off.toNat + d.h.toNat * d.rowBytes ≤ c.srom.length)

/-- R9 (b): a glyph's rows lie inside GROM, at a word boundary. -/
def Config.glyphOk (c : Config) (d : Descriptor) : Bool :=
  decide (d.off.toNat % 4 = 0 ∧ d.off.toNat / 4 + d.h.toNat * d.rowWords ≤ c.grom.length)

/-- R8 (h), R9: the asset tables are well formed; PALETTE has its 16 entries. -/
def Config.assetsOk (c : Config) : Bool :=
  c.sprites.all c.spriteOk && c.glyphs.all c.glyphOk && decide (c.palette.length = 16)

/-- R8: the admitted configurations. -/
def Config.wf (c : Config) : Bool :=
  c.ssOk && c.rangesOk && c.widthEven && c.chunksExact && c.chunkOk && c.rowsExact && c.sizesOk &&
    c.tablesOk && c.assetsOk

end Sys2Proof
end

