-- ==== Sys2Proof/Machine/State.lean ====
section
/-! DEFINITION. Everything the spec gives the block to hold (spec/10_state.md), the inputs the outside
world will give it, and the state right after reset (R48). Plain data throughout. -/

namespace Sys2Proof.Machine

open Sys2Proof

/-- A byte memory: address and byte pairs, addresses strictly rising (Memory.wf, Machine/Ops.lean).
An address it does not list has not been written since reset: it has no value of its own, and what
the block reads there is a free value (R20, R24, log 5). -/
abbrev Memory := List Host.Cell

/-- The scan-out state ST (R25). -/
inductive ScanState where
  | idle
  | streaming
  deriving DecidableEq, Repr

/-- The display port's answer to an offered event (R181). -/
inductive Answer where
  | ok
  | fail
  deriving DecidableEq, Repr

/-- The events the block offers to the display port (R180). -/
inductive DisplayEvent where
  | setColumnRange (a b : Nat)
  | setRowRange (a b : Nat)
  | data (bytes : List Byte)
  deriving DecidableEq, Repr

/-- The Emit at which the command in progress waits for the display port's answer (R181), with the OR
of the failures before it. -/
inductive Hold where
  /-- SEND's Data event (R192). -/
  | send
  /-- ADDR's column event (R193). -/
  | addrColumn
  /-- ADDR's row event; `failed` says whether the column event failed (R193). -/
  | addrRow (failed : Bool)
  /-- FRAME's column event (R194). -/
  | frameColumn
  /-- FRAME's row event (R194). -/
  | frameRow (failed : Bool)
  /-- One of FRAME's Data events (R194). -/
  | frameData (failed : Bool)
  deriving DecidableEq, Repr

/-- The direction of a host access, with the value written (R50). -/
inductive AccessKind where
  | read
  | write (value : Word)
  deriving DecidableEq, Repr

/-- One access of the host: a bus byte address, a width in bits, a direction (R50, R51). -/
structure HostAccess where
  addr : Nat
  bits : Nat
  kind : AccessKind
  deriving DecidableEq, Repr

/-- The registers of the 128-byte block (R30 to R46). -/
inductive Reg where
  | id | config | dims | chunk | grange | status | cmd | argXY | result | meas | faultInfo
  | curPtr | curCol | surfAddr | surfData | batchAddr | batchData
  deriving DecidableEq, Repr

/-- The fault codes of R222, without NONE. -/
inductive FaultCode where
  | illegalCmd | phase | notStreaming | spriteIndex | spriteHBounds | glyphBounds | batchEmpty | badAccess
  deriving DecidableEq, Repr

/-- The whole machine. -/
structure State where
  /-- The configuration (R6), constant for the life of the block. -/
  cfg        : Config
  /-- The surface `surf[0..SURF_BYTES-1]` (R20). -/
  surf       : Memory
  /-- The batch buffer `batch[0..CHUNK_BYTES-1]` (R24). -/
  batch      : Memory
  /-- `ST` (R25). -/
  st         : ScanState
  /-- `PTR` (R26). -/
  ptr        : BitVec 24
  /-- `COL` (R26). -/
  col        : BitVec 16
  /-- `NB` (R26). -/
  nb         : BitVec 16
  /-- `BATCH_VALID` (R24, R35). -/
  batchValid : Bool
  /-- `RES_W` (R27). -/
  resW       : BitVec 16
  /-- `RES_H` (R27). -/
  resH       : BitVec 16
  /-- `GFOUND` (R27). -/
  gfound     : Bool
  /-- `MEAS_W` (R28). -/
  measW      : BitVec 16
  /-- `MEAS_H` (R28). -/
  measH      : BitVec 16
  /-- `FAULT` (R29). -/
  fault      : Bool
  /-- `FAULT_CODE` (R29). -/
  faultCode  : BitVec 8
  /-- `FAULT_INFO` (R29, R40). -/
  faultInfo  : Word
  /-- `XFER_FAIL` (R29). -/
  xferFail   : Bool
  /-- `ARG_XY` (R37). -/
  argXY      : Word
  /-- `SURF_ADDR` (R43). -/
  surfAddr   : BitVec 24
  /-- `BATCH_ADDR` (R45). -/
  batchAddr  : BitVec 16
  /-- The Emit that holds, if a command is in progress (R181). -/
  hold       : Option Hold
  /-- The display log, oldest first: each event with its answer (R181). -/
  displayLog : List (DisplayEvent × Answer)
  /-- Model's own: the host's accesses to come, in program order (R63). Log 2. -/
  bus        : List HostAccess
  /-- Model's own: what the display port will answer each time it is asked; `none` is a step in which it
  does not answer, and the end of the list is silence for ever (R181). Log 3. -/
  port       : List (Option Answer)
  /-- Model's own: the coming samples of the reset input, one a step; past the end it is not asserted
  (R250). Log 4. -/
  resetPin   : List Bool
  /-- Model's own: the values the host's reads returned, oldest first. Log 11. -/
  reads      : List Word
  /-- Model's own: how many resets there have been; it selects the free values of R48. Log 5. -/
  resets     : Nat
  deriving DecidableEq, Repr

/-- Why the model stops although the block would not. -/
inductive Fault where
  /-- Raised by a host access whose bus address is not in PFB_BASE .. PFB_BASE + 0x7F: it does not reach
  the block, and the spec gives it no meaning (R50). Safe: the model stops. Log 9. -/
  | outsideBlock
  deriving DecidableEq, Repr

/-- Why the model gives a command no meaning. -/
inductive Refusal where
  /-- Raised by an arm of exec whose command has no meaning yet. Safe. No arm raises it now. -/
  | notModelled (mnemonic : String)
  deriving DecidableEq, Repr

/-- The state after the first reset of a block with configuration `c` (R48). Every register has the
spec's value; the surface and the batch buffer list nothing, so each of their bytes is a free value.
The last five fields are the model's own (log 2, 3, 4, 5, 11). -/
def State.resetFor (c : Config) : State where
  cfg := c
  surf := []
  batch := []
  st := .idle
  ptr := 0#24
  col := 0#16
  nb := 0#16
  batchValid := false
  resW := 0#16
  resH := 0#16
  gfound := false
  measW := 0#16
  measH := 0#16
  fault := false
  faultCode := 0#8
  faultInfo := 0#32
  xferFail := false
  argXY := 0#32
  surfAddr := 0#24
  batchAddr := 0#16
  hold := none
  displayLog := []
  bus := []
  port := []
  resetPin := []
  reads := []
  resets := 0

/-- The machine right after reset (R48), with the spec's test configuration TC1: the device's own is
OPEN (R6). DESIGN CHOICE, log 6. -/
def State.reset : State := State.resetFor Config.tc1

end Sys2Proof.Machine
end

