-- ==== Sys2Proof/Machine/Ops.lean ====
section
/-! DEFINITION. The named operations over memories and state: byte memories, surface and batch bytes,
pixels (spec/20_memory.md R55, R56), raising a fault (spec/60_exceptions.md R221 to R225), reset
(spec/70_reset_and_hazards.md R250). -/

namespace Sys2Proof.Machine

open Sys2Proof

/-- What an address a memory does not list reads as: no value of its own (R20, R24; log 5). -/
def Memory.unlisted (_a : Nat) : Option Byte := none

/-- The byte a memory holds at `a`, if it was written since reset. -/
def Memory.read : Memory → Nat → Option Byte
  | [], a => Memory.unlisted a
  | (k, b) :: rest, a => if a = k then some b else Memory.read rest a

/-- Store byte `b` at `a`, keeping the addresses rising. -/
def Memory.write : Memory → Nat → Byte → Memory
  | [], a, b => [(a, b)]
  | (k, v) :: rest, a, b =>
    if a < k then (a, b) :: (k, v) :: rest
    else if a = k then (a, b) :: rest
    else (k, v) :: Memory.write rest a b

/-- The canonical form: addresses strictly rising, no entry equal to what an unlisted address reads
as. -/
abbrev Memory.wf (m : Memory) : Prop :=
  m.Pairwise (fun p q => p.1 < q.1) ∧ ∀ c ∈ m, some c.2 ≠ Memory.unlisted c.1

/-- `surf[i]` (R20). -/
def State.surfByte (s : State) (i : Nat) : Byte :=
  (s.surf.read i).getD (Config.powerOnSurf s.resets i)

/-- `surf[i] <- b`. -/
def State.pokeSurf (s : State) (i : Nat) (b : Byte) : State := { s with surf := s.surf.write i b }

/-- `batch[i]` (R24). -/
def State.batchByte (s : State) (i : Nat) : Byte :=
  (s.batch.read i).getD (Config.powerOnBatch s.resets i)

/-- `batch[i] <- b`. -/
def State.pokeBatch (s : State) (i : Nat) (b : Byte) : State := { s with batch := s.batch.write i b }

/-- The low nibble of a byte: the even-x pixel (R55). -/
def loNibble (b : Byte) : Nibble := b.extractLsb' 0 4

/-- The high nibble of a byte: the odd-x pixel (R55). -/
def hiNibble (b : Byte) : Nibble := b.extractLsb' 4 4

/-- The byte `{hi, lo}`. -/
def nibbles (hi lo : Nibble) : Byte := hi ++ lo

/-- `PixByte(x, y)` (R55). -/
def pixByte (c : Config) (x y : Nat) : Nat := y * c.stride + x / 2

/-- `Pix(x, y)` (R55). -/
def State.pix (s : State) (x y : Nat) : Nibble :=
  if x % 2 = 0 then loNibble (s.surfByte (pixByte s.cfg x y))
  else hiNibble (s.surfByte (pixByte s.cfg x y))

/-- `SetPix(x, y, v)` (R56). -/
def State.setPix (s : State) (x y : Nat) (v : Nibble) : State :=
  let i := pixByte s.cfg x y
  s.pokeSurf i
    (if x % 2 = 0 then nibbles (hiNibble (s.surfByte i)) v else nibbles v (loNibble (s.surfByte i)))

/-- The number of a fault code in STATUS.FAULT_CODE (R222). -/
def FaultCode.bits : FaultCode → BitVec 8
  | .illegalCmd => 0x01#8
  | .phase => 0x02#8
  | .notStreaming => 0x03#8
  | .spriteIndex => 0x04#8
  | .spriteHBounds => 0x05#8
  | .glyphBounds => 0x06#8
  | .batchEmpty => 0x07#8
  | .badAccess => 0x08#8

/-- Taking an exception, on this block `raise Fault(code)` (R221): FAULT, FAULT_CODE and FAULT_INFO are
written and nothing else changes. While FAULT = 1 the first fault is kept (R224). There is no handler,
no saved pc and no return (R230); FAULT is left only by reset. -/
def State.raiseFault (s : State) (code : FaultCode) (info : Word) : State :=
  if s.fault then s else { s with fault := true, faultCode := code.bits, faultInfo := info }

/-- A command under the checks of R225: nothing happens while FAULT = 1 (check 1); otherwise the first
check that applies raises its fault with the command word in FAULT_INFO (R223); otherwise the effect. -/
def runCommand (i : Instr) (s : State) (check : Option FaultCode) (effect : State) :
    Host.Outcome State Fault Refusal :=
  if s.fault then .next s
  else
    match check with
    | some code => .next (s.raiseFault code (encode i))
    | none => .next effect

/-- R225 check 3, for the commands that need the surface or a new pass: PHASE while Streaming. -/
def State.phaseCheck (s : State) : Option FaultCode :=
  match s.st with
  | .streaming => some .phase
  | .idle => none

/-- R225 check 3, for BATCH: NOT_STREAMING while Idle. -/
def State.streamingCheck (s : State) : Option FaultCode :=
  match s.st with
  | .streaming => none
  | .idle => some .notStreaming

/-- R225 check 8, for SEND: BATCH_EMPTY before the first BATCH. -/
def State.batchCheck (s : State) : Option FaultCode := if s.batchValid then none else some .batchEmpty

/-- R250: the platform's reset. Every piece of the block's state takes its reset value (R48), with fresh
draws for the surface and the batch buffer; a held Emit is abandoned. What the outside world will do
next, and what it has already seen (the display log, the values read), is not the block's state
(log 4, 11, 12). -/
def State.platformReset (s : State) : State :=
  { State.resetFor s.cfg with
    displayLog := s.displayLog
    bus := s.bus
    port := s.port
    resetPin := s.resetPin
    reads := s.reads
    resets := s.resets + 1 }

/-- R8: a block is built only with an admitted configuration. Log 7. -/
def State.build (c : Config) : Option State := if c.wf then some (State.resetFor c) else none

end Sys2Proof.Machine
end

