-- ==== Sys2Proof/Machine/Flags.lean ====
section
/-! DEFINITION. The flag and result writes of commands (spec/10_state.md R27, R28, R35) and STATUS as
one word (R35). -/

namespace Sys2Proof.Machine

open Sys2Proof

/-- The bit of an answer that says the transfer failed (R181). -/
def Answer.failed : Answer → Bool
  | .ok => false
  | .fail => true

/-- One flag as a one-bit field. -/
def flagBit (b : Bool) : BitVec 1 := BitVec.ofBool b

/-- STATUS.STREAMING (R25, R35). -/
def ScanState.streamingFlag : ScanState → Bool
  | .idle => false
  | .streaming => true

/-- STATUS (R35): NB, FAULT_CODE, three reserved zeros, XFER_FAIL, BATCH_VALID, GFOUND, FAULT,
STREAMING, from bit 31 down. -/
def State.statusWord (s : State) : Word :=
  s.nb ++ s.faultCode ++ 0#3 ++ flagBit s.xferFail ++ flagBit s.batchValid ++ flagBit s.gfound ++
    flagBit s.fault ++ flagBit s.st.streamingFlag

/-- GFOUND, RES_W and RES_H, written together by GLYPH (R27, R150). -/
def State.setResult (s : State) (found : Bool) (w h : BitVec 16) : State :=
  { s with gfound := found, resW := w, resH := h }

/-- MEAS_W and MEAS_H (R28). -/
def State.setMeas (s : State) (w h : BitVec 16) : State := { s with measW := w, measH := h }

/-- GFOUND alone, written by MADD (R27, R152). -/
def State.setFound (s : State) (found : Bool) : State := { s with gfound := found }

end Sys2Proof.Machine
end

