-- ==== Sys2Proof/Machine/Operands.lean ====
section
/-! DEFINITION. Operand assembly (spec/30_encoding.md R84) and the look-ups in the read-only tables
(spec/10_state.md R21 to R23, spec/42_compositor.md R140 to R142, R148, R149). -/

namespace Sys2Proof.Machine

open Sys2Proof

/-- `x = sext_16(ARG_XY[15:0])` (R84). -/
def State.argX (s : State) : Int := (s.argXY.extractLsb' 0 16).toInt

/-- `y = sext_16(ARG_XY[31:16])` (R84). -/
def State.argY (s : State) : Int := (s.argXY.extractLsb' 16 16).toInt

/-- `PALETTE[n]` (R21). -/
def paletteAt (c : Config) (n : Nibble) : Rgb565 := c.palette.getD n.toNat 0#16

/-- `SROM[i]` (R22); an index past the table is read in no admitted configuration (R9, R60; log 16). -/
def sromAt (c : Config) (i : Nat) : Byte := c.srom.getD i 0#8

/-- `GROM[i]` (R23); the same remark as `sromAt`. -/
def gromAt (c : Config) (i : Nat) : Word := c.grom.getD i 0#32

/-- `src(j, c)`, source byte c of row j of a sprite (R142). -/
def spriteSrc (cfg : Config) (d : Descriptor) (j c : Nat) : Byte :=
  sromAt cfg (d.off.toNat + j * d.rowBytes + c)

/-- `dup(n)` (R142). -/
def dupNibble (n : Nibble) : Byte := nibbles n n

/-- `ex(j, c)`, byte c of the 2x expansion of row j (R142): byte 2c doubles the low nibble of source
byte c, byte 2c + 1 its high nibble. -/
def spriteEx (cfg : Config) (d : Descriptor) (j c : Nat) : Byte :=
  if c % 2 = 0 then dupNibble (loNibble (spriteSrc cfg d j (c / 2)))
  else dupNibble (hiNibble (spriteSrc cfg d j (c / 2)))

/-- `DW`, the destination width of a sprite at scale `sc` (R140). -/
def destWidth (d : Descriptor) (sc : Nat) : Nat := 2 * d.rowBytes * sc

/-- The sprite checks 4 and 5 of R225: SPRITE_INDEX, then SPRITE_HBOUNDS (R140). -/
def State.spriteCheck (s : State) (k sc : Nat) : Option FaultCode :=
  match s.cfg.sprites[k]? with
  | none => some .spriteIndex
  | some d =>
    if s.argX < 0 ∨ s.argX % 2 ≠ 0 ∨ (s.cfg.surfWidth : Int) < s.argX + destWidth d sc then
      some .spriteHBounds
    else none

/-- `Drawn(j)`: all `sc` output rows of source row j lie in the surface (R141). -/
def State.drawnRow (s : State) (sc j : Nat) : Bool :=
  decide (0 ≤ s.argY + sc * j) && decide (s.argY + sc * j + sc - 1 ≤ (s.cfg.surfHeight : Int) - 1)

/-- The first output row of source row j, for a row that is drawn (R141). -/
def State.outRow (s : State) (sc j : Nat) : Nat := (s.argY + sc * j).toNat

/-- `dst(r, c) = r*S + x/2 + c` (R142), the surface byte that column c of an output row is stored to. -/
def State.dst (s : State) (r c : Nat) : Nat := r * s.cfg.stride + s.argX.toNat / 2 + c

/-- `GlyphLookup(code)` (R148). -/
def glyphLookup (c : Config) (code : Nat) : Option Descriptor :=
  if code < c.firstCode ∨ c.lastCode < code then none else c.glyphs[code - c.firstCode]?

/-- `Bit(i, j)`, column i of row j of a glyph (R149). -/
def glyphBit (c : Config) (d : Descriptor) (i j : Nat) : Bool :=
  let w := gromAt c (d.off.toNat / 4 + j * d.rowWords + i / 32)
  match c.glyphOrder with
  | .lsbFirst => w.getLsbD (i % 32)
  | .msbFirst => w.getLsbD (31 - i % 32)

/-- R150's box test, check 7 of R225: GLYPH_BOUNDS when the glyph's box is not inside the surface. -/
def State.glyphCheck (s : State) (d : Descriptor) : Option FaultCode :=
  if s.argX < 0 ∨ s.argY < 0 ∨ (s.cfg.surfWidth : Int) < s.argX + d.w.toNat ∨
      (s.cfg.surfHeight : Int) < s.argY + d.h.toNat then
    some .glyphBounds
  else none

end Sys2Proof.Machine
end

