-- ==== Sys2Proof/Machine/Compositor.lean ====
section
/-! DEFINITION. The sprite and glyph commands and text measurement (spec/42_compositor.md R140 to
R153). -/

namespace Sys2Proof.Machine

open Sys2Proof

/-- One nibble of the blend: the source where it is nonzero (R143). -/
def blendNibble (d s : Nibble) : Nibble := if s ≠ 0#4 then s else d

/-- `blend(d, s)` (R143). -/
def blendByte (d s : Byte) : Byte :=
  nibbles (blendNibble (hiNibble d) (hiNibble s)) (blendNibble (loNibble d) (loNibble s))

/-- Store to columns 0 .. n-1 of output row r the bytes `f old c`, where old is the byte there. -/
def State.mapRow (s : State) (r n : Nat) (f : Byte → Nat → Byte) : State :=
  (List.range n).foldl (fun t c => t.pokeSurf (t.dst r c) (f (t.surfByte (t.dst r c)) c)) s

/-- Source row j of SPR (R144). -/
def sprRow (d : Descriptor) (s : State) (j : Nat) : State :=
  s.mapRow (s.outRow 1 j) d.rowBytes (fun _ c => spriteSrc s.cfg d j c)

/-- Source row j of SPRB (R145). -/
def sprbRow (d : Descriptor) (s : State) (j : Nat) : State :=
  s.mapRow (s.outRow 1 j) d.rowBytes (fun old c => blendByte old (spriteSrc s.cfg d j c))

/-- Source row j of SPR2: two equal output rows (R146). -/
def spr2Row (d : Descriptor) (s : State) (j : Nat) : State :=
  let r := s.outRow 2 j
  let s1 := s.mapRow r (2 * d.rowBytes) (fun _ c => spriteEx s.cfg d j c)
  s1.mapRow (r + 1) (2 * d.rowBytes) (fun _ c => spriteEx s.cfg d j c)

/-- Source row j of SPRB2 (R147): the first output row is blended against its own old content; the
second is a copy of the first, or blended against its own, by SCALE2X_ROW2. -/
def sprb2Row (d : Descriptor) (s : State) (j : Nat) : State :=
  let r := s.outRow 2 j
  let s1 := s.mapRow r (2 * d.rowBytes) (fun old c => blendByte old (spriteEx s.cfg d j c))
  match s.cfg.row2 with
  | .copyRow1 => s1.mapRow (r + 1) (2 * d.rowBytes) (fun _ c => s1.surfByte (s.dst r c))
  | .blendIndependent =>
    s1.mapRow (r + 1) (2 * d.rowBytes) (fun old c => blendByte old (spriteEx s.cfg d j c))

/-- Draw the source rows of sprite k that are not clipped, in order (R141, R144 to R147). -/
def drawSprite (s : State) (k sc : Nat) (row : Descriptor → State → Nat → State) : State :=
  match s.cfg.sprites[k]? with
  | none => s
  | some d => ((List.range d.h.toNat).filter (s.drawnRow sc)).foldl (row d) s

/-- SPR (R144). -/
def execSpr (k : Nat) (s : State) : Host.Outcome State Fault Refusal :=
  runCommand (.spr k) s (s.phaseCheck.or (s.spriteCheck k 1)) (drawSprite s k 1 sprRow)

/-- SPRB (R145). -/
def execSprb (k : Nat) (s : State) : Host.Outcome State Fault Refusal :=
  runCommand (.sprb k) s (s.phaseCheck.or (s.spriteCheck k 1)) (drawSprite s k 1 sprbRow)

/-- SPR2 (R146). -/
def execSpr2 (k : Nat) (s : State) : Host.Outcome State Fault Refusal :=
  runCommand (.spr2 k) s (s.phaseCheck.or (s.spriteCheck k 2)) (drawSprite s k 2 spr2Row)

/-- SPRB2 (R147). -/
def execSprb2 (k : Nat) (s : State) : Host.Outcome State Fault Refusal :=
  runCommand (.sprb2 k) s (s.phaseCheck.or (s.spriteCheck k 2)) (drawSprite s k 2 sprb2Row)

/-- The ink of a set glyph bit, by the parity of the destination column (R150). -/
def glyphInk (c : Config) (x : Nat) : Nibble := if x % 2 = 0 then c.glyphInkEven else c.glyphInkOdd

/-- OR the ink into pixel (x, y) (R150). -/
def State.inkPixel (s : State) (x y : Nat) : State := s.setPix x y (s.pix x y ||| glyphInk s.cfg x)

/-- Column i of row j of a glyph (R150): a clear bit leaves its pixel alone. -/
def glyphColumn (d : Descriptor) (j : Nat) (s : State) (i : Nat) : State :=
  if glyphBit s.cfg d i j then s.inkPixel (s.argX.toNat + i) (s.argY.toNat + j) else s

/-- Row j of a glyph, left to right (R150). -/
def glyphRow (d : Descriptor) (s : State) (j : Nat) : State :=
  (List.range d.w.toNat).foldl (glyphColumn d j) s

/-- The surface writes of a glyph that fits, top to bottom (R150). -/
def drawGlyph (d : Descriptor) (s : State) : State := (List.range d.h.toNat).foldl (glyphRow d) s

/-- GLYPH (R150): PHASE, then "not drawn", then GLYPH_BOUNDS, then the ink and the result (R225). -/
def execGlyph (code : Nat) (s : State) : Host.Outcome State Fault Refusal :=
  match glyphLookup s.cfg code with
  | none => runCommand (.glyph code) s s.phaseCheck (s.setResult false 0#16 0#16)
  | some d =>
    runCommand (.glyph code) s (s.phaseCheck.or (s.glyphCheck d)) ((drawGlyph d s).setResult true d.w d.h)

/-- MCLR (R151). -/
def execMclr (s : State) : Host.Outcome State Fault Refusal :=
  runCommand .mclr s none (s.setMeas 0#16 0#16)

/-- The larger of two 16-bit unsigned values. -/
def maxU16 (a b : BitVec 16) : BitVec 16 := if a.toNat < b.toNat then b else a

/-- MADD (R152): MEAS_W wraps, MEAS_H takes the maximum, an unknown code changes GFOUND only. -/
def execMadd (code : Nat) (s : State) : Host.Outcome State Fault Refusal :=
  match glyphLookup s.cfg code with
  | none => runCommand (.madd code) s none (s.setFound false)
  | some d =>
    runCommand (.madd code) s none
      ((s.setMeas (s.measW + d.w) (maxU16 s.measH d.h)).setFound true)

end Sys2Proof.Machine
end

