-- ==== Sys2Proof/Machine/Surface.lean ====
section
/-! DEFINITION. CLEAR, FADE and SCROLL (spec/41_surface.md R120 to R122). -/

namespace Sys2Proof.Machine

open Sys2Proof

/-- R120: every surface byte becomes 0. -/
def clearSurface (s : State) : State :=
  (List.range s.cfg.surfBytes).foldl (fun t i => t.pokeSurf i 0#8) s

/-- One nibble of FADE: less 1, saturating at 0 (R121). -/
def fadeNibble (n : Nibble) : Nibble := if n = 0#4 then 0#4 else n - 1#4

/-- One byte of FADE; the two nibbles are independent (R121). -/
def fadeByte (b : Byte) : Byte := nibbles (fadeNibble (hiNibble b)) (fadeNibble (loNibble b))

/-- R121: every surface byte fades. -/
def fadeSurface (s : State) : State :=
  (List.range s.cfg.surfBytes).foldl (fun t i => t.pokeSurf i (fadeByte (t.surfByte i))) s

/-- `D = clamp(d, -(H_s - 1), H_s - 1)` (R122). -/
def clampDelta (c : Config) (d : Int) : Int :=
  max (-((c.surfHeight : Int) - 1)) (min ((c.surfHeight : Int) - 1) d)

/-- `row r <- old row q` (R122). -/
def copyRow (old : State) (s : State) (r q : Nat) : State :=
  (List.range s.cfg.stride).foldl
    (fun t c => t.pokeSurf (r * s.cfg.stride + c) (old.surfByte (q * s.cfg.stride + c))) s

/-- R122 with the clamped delta: for D > 0 rows D .. H_s - 1 receive old rows 0 ..; for D < 0 rows
0 .. H_s - 1 + D receive old rows |D| ..; every read is of the old surface. -/
def scrollRows (s : State) (D : Int) : State :=
  let n := s.cfg.surfHeight - D.natAbs
  if 0 < D then (List.range n).foldl (fun t q => copyRow s t (q + D.toNat) q) s
  else if D < 0 then (List.range n).foldl (fun t r => copyRow s t r (r + D.natAbs)) s
  else s

/-- CLEAR (R120). -/
def execClear (s : State) : Host.Outcome State Fault Refusal :=
  runCommand .clear s s.phaseCheck (clearSurface s)

/-- FADE (R121). -/
def execFade (s : State) : Host.Outcome State Fault Refusal :=
  runCommand .fade s s.phaseCheck (fadeSurface s)

/-- SCROLL (R122). -/
def execScroll (delta : Int) (s : State) : Host.Outcome State Fault Refusal :=
  runCommand (.scroll delta) s s.phaseCheck (scrollRows s (clampDelta s.cfg delta))

end Sys2Proof.Machine
end

