-- ==== Sys2Proof/Machine/Codec.lean ====
section
/-! DEFINITION. The RGB565 codec of spec/40_codec.md (R100 to R105): combinational functions, no
commands. -/

namespace Sys2Proof.Machine

open Sys2Proof

/-- `pack(r, g, b)` (R100). -/
def pack (r g b : BitVec 8) : Rgb565 := r.extractLsb' 3 5 ++ g.extractLsb' 2 6 ++ b.extractLsb' 3 5

/-- `R(v)` (R101). -/
def redOf (v : Rgb565) : BitVec 5 := v.extractLsb' 11 5

/-- `G(v)` (R101). -/
def greenOf (v : Rgb565) : BitVec 6 := v.extractLsb' 5 6

/-- `B(v)` (R101). -/
def blueOf (v : Rgb565) : BitVec 5 := v.extractLsb' 0 5

/-- `expand(v)` (R102): red in lane 2, green in lane 1, blue in lane 0. -/
def expand (v : Rgb565) : Word :=
  (redOf v).setWidth 32 <<< 16 ||| (greenOf v).setWidth 32 <<< 8 ||| (blueOf v).setWidth 32

/-- `unexpand(u)` (R103). -/
def unexpand (u : Word) : Rgb565 := u.extractLsb' 16 5 ++ u.extractLsb' 8 6 ++ u.extractLsb' 0 5

/-- `avg4(a, b, c, d)`, the box-filter average (R104). -/
def avg4 (a b c d : Rgb565) : Rgb565 := unexpand ((expand a + expand b + expand c + expand d) >>> 2)

/-- `v[15:8]`, the byte of a pixel word that is sent first (R61, R105). -/
def pixelHigh (v : Rgb565) : Byte := v.extractLsb' 8 8

/-- `v[7:0]`, the byte of a pixel word that is sent second (R61, R105). -/
def pixelLow (v : Rgb565) : Byte := v.extractLsb' 0 8

/-- `bswap16(v)` (R105). -/
def bswap16 (v : Rgb565) : Rgb565 := pixelLow v ++ pixelHigh v

end Sys2Proof.Machine
end

