-- ==== Sys2Proof/Machine/Scanout.lean ====
section
/-! DEFINITION. BEGIN and BATCH: the scan-out encoder (spec/43_scanout.md R183 to R188). -/

namespace Sys2Proof.Machine

open Sys2Proof

/-- The cursor registers PTR and COL, stored in their 24 and 16 bits (R26). -/
def State.setCursor (s : State) (p c : Nat) : State :=
  { s with ptr := BitVec.ofNat 24 p, col := BitVec.ofNat 16 c }

/-- BEGIN's effect (R184). -/
def beginPass (s : State) : State :=
  { s with st := .streaming, ptr := 0#24, col := 0#16, nb := 0#16 }

/-- `put(p, v)` (R183): the p-th pixel word of the batch, high byte first. -/
def State.putPixel (s : State) (p : Nat) (v : Rgb565) : State :=
  (s.pokeBatch (2 * p) (pixelHigh v)).pokeBatch (2 * p + 1) (pixelLow v)

/-- The left pixel word of a surface byte (R188). -/
def leftPixel (c : Config) (b : Byte) : Rgb565 := paletteAt c (loNibble b)

/-- The right pixel word of a surface byte (R188). -/
def rightPixel (c : Config) (b : Byte) : Rgb565 := paletteAt c (hiNibble b)

/-- The average of the 2x2 pixel block held by a byte and the byte below it (R186). -/
def blockPixel (c : Config) (b0 b1 : Byte) : Rgb565 :=
  avg4 (paletteAt c (loNibble b0)) (paletteAt c (hiNibble b0)) (paletteAt c (loNibble b1))
    (paletteAt c (hiNibble b1))

/-- The cursor after `Step1` (R188). -/
def State.advance1 (s : State) : State :=
  let c := s.col.toNat + 2
  s.setCursor (s.ptr.toNat + 1) (if c = s.cfg.nw then 0 else c)

/-- The cursor after `Step2` (R186): a completed native row skips the odd row already read. -/
def State.advance2 (s : State) : State :=
  let c := s.col.toNat + 1
  if c = s.cfg.nw then s.setCursor (s.ptr.toNat + 1 + s.cfg.stride) 0
  else s.setCursor (s.ptr.toNat + 1) c

/-- `Step1` and its two puts, at pixel index p (R185, R188). -/
def encode1 (s : State) (p : Nat) : State :=
  let b := s.surfByte s.ptr.toNat
  ((s.advance1).putPixel p (leftPixel s.cfg b)).putPixel (p + 1) (rightPixel s.cfg b)

/-- `Step2` and its put, at pixel index p (R185, R186). -/
def encode2 (s : State) (p : Nat) : State :=
  let b0 := s.surfByte s.ptr.toNat
  let b1 := s.surfByte (s.ptr.toNat + s.cfg.stride)
  (s.advance2).putPixel p (blockPixel s.cfg b0 b1)

/-- How often the loop of R185 runs: two pixel words a step at SS = 1, one at SS = 2. -/
def batchSteps (c : Config) : Nat := if c.ss = 1 then c.batchPixels / 2 else c.batchPixels

/-- The first n steps of the loop of R185. -/
def encodeSteps (s : State) (n : Nat) : State :=
  if s.cfg.ss = 1 then (List.range n).foldl (fun t k => encode1 t (2 * k)) s
  else (List.range n).foldl encode2 s

/-- The loop of R185 over BATCH_PIXELS pixel words. -/
def encodeBatch (s : State) : State := encodeSteps s (batchSteps s.cfg)

/-- The end of BATCH (R185, R187): BATCH_VALID, NB, and Idle after the NB_FRAME-th batch. -/
def closeBatch (s : State) : State :=
  let n := s.nb + 1#16
  { s with
    batchValid := true
    nb := n
    st := if n.toNat = s.cfg.nbFrame then .idle else s.st }

/-- BATCH's effect (R185), shared with FRAME (R194). -/
def produceBatch (s : State) : State := closeBatch (encodeBatch s)

/-- BEGIN (R184). -/
def execBegin (s : State) : Host.Outcome State Fault Refusal :=
  runCommand .begin s s.phaseCheck (beginPass s)

/-- BATCH (R185). -/
def execBatch (s : State) : Host.Outcome State Fault Refusal :=
  runCommand .batch s s.streamingCheck (produceBatch s)

end Sys2Proof.Machine
end

