-- ==== Sys2Proof/Machine/Transfer.lean ====
section
/-! DEFINITION. SEND, ADDR and FRAME: offering events to the display port and holding until it answers
(spec/43_scanout.md R180, R181, R192 to R194). -/

namespace Sys2Proof.Machine

open Sys2Proof

/-- `batch[0 .. CHUNK_BYTES-1]`, the payload of a Data event (R180). -/
def State.batchBytes (s : State) : List Byte := (List.range s.cfg.chunkBytes).map s.batchByte

/-- The event offered at a held Emit (R180, R192 to R194). -/
def State.offered (s : State) : Hold → DisplayEvent
  | .send => .data s.batchBytes
  | .addrColumn => .setColumnRange 0 (s.cfg.nw - 1)
  | .addrRow _ => .setRowRange 0 (s.cfg.nh - 1)
  | .frameColumn => .setColumnRange 0 (s.cfg.nw - 1)
  | .frameRow _ => .setRowRange 0 (s.cfg.nh - 1)
  | .frameData _ => .data s.batchBytes

/-- The bytes an event puts on the panel's bus; the spelling of the two range events is the
collaborator's (R6 DISPLAY_CMD_ENCODING, R180; log 13). No step reads it. -/
def DisplayEvent.busBytes : DisplayEvent → List Byte
  | .setColumnRange a b => Config.displayCmdEncoding false a b
  | .setRowRange a b => Config.displayCmdEncoding true a b
  | .data bytes => bytes

/-- The command in progress ends with XFER_FAIL = `failed` (R192 to R194). -/
def State.endTransfer (s : State) (failed : Bool) : State :=
  { s with hold := none, xferFail := failed }

/-- FRAME's loop (R194): while fewer than NB_FRAME batches are produced, the next batch is produced and
offered; then the command ends. Log 19. -/
def frameNext (s : State) (failed : Bool) : State :=
  if s.nb.toNat < s.cfg.nbFrame then { produceBatch s with hold := some (.frameData failed) }
  else s.endTransfer failed

/-- What follows the answer `a` to the Emit at `h`: the event and its answer join the display log (R181)
and the command goes on (R192, R193, R194). A `fail` stops nothing. -/
def answered (h : Hold) (a : Answer) (s : State) : State :=
  let s := { s with displayLog := s.displayLog ++ [(s.offered h, a)] }
  match h with
  | .send => s.endTransfer a.failed
  | .addrColumn => { s with hold := some (.addrRow a.failed) }
  | .addrRow failed => s.endTransfer (failed || a.failed)
  | .frameColumn => { s with hold := some (.frameRow a.failed) }
  | .frameRow failed => frameNext (beginPass s) (failed || a.failed)
  | .frameData failed => frameNext s (failed || a.failed)

/-- Go on with the command in progress for as long as the display port answers (R181). `port` is what
the port will answer: `none` is a step of silence, after which the command still holds, and the end
of the list is silence for ever. With no command in progress nothing is asked. -/
def pump : List (Option Answer) → State → State
  | [], s => { s with port := [] }
  | none :: rest, s =>
    match s.hold with
    | some _ => { s with port := rest }
    | none => { s with port := none :: rest }
  | some a :: rest, s =>
    match s.hold with
    | some h => pump rest (answered h a s)
    | none => { s with port := some a :: rest }

/-- Start the command whose first Emit is `h`, and go on while the display port answers. -/
def State.transfer (s : State) (h : Hold) : State := pump s.port { s with hold := some h }

/-- SEND (R192). -/
def execSend (s : State) : Host.Outcome State Fault Refusal :=
  runCommand .send s s.batchCheck (s.transfer .send)

/-- ADDR (R193). -/
def execAddr (s : State) : Host.Outcome State Fault Refusal :=
  runCommand .addr s s.phaseCheck (s.transfer .addrColumn)

/-- FRAME (R194). -/
def execFrame (s : State) : Host.Outcome State Fault Refusal :=
  runCommand .frame s s.phaseCheck (s.transfer .frameColumn)

end Sys2Proof.Machine
end

