-- ==== Sys2Proof/Machine/Dispatch.lean ====
section
/-! DEFINITION. One arm per command (spec/30_encoding.md R85). -/

namespace Sys2Proof.Machine

open Sys2Proof

def exec (i : Instr) (s : State) : Host.Outcome State Fault Refusal :=
  match i with
  | .clear => Sys2Proof.Machine.execClear s
  | .fade => Sys2Proof.Machine.execFade s
  | .scroll delta => Sys2Proof.Machine.execScroll delta s
  | .spr k => Sys2Proof.Machine.execSpr k s
  | .sprb k => Sys2Proof.Machine.execSprb k s
  | .spr2 k => Sys2Proof.Machine.execSpr2 k s
  | .sprb2 k => Sys2Proof.Machine.execSprb2 k s
  | .glyph code => Sys2Proof.Machine.execGlyph code s
  | .mclr => Sys2Proof.Machine.execMclr s
  | .madd code => Sys2Proof.Machine.execMadd code s
  | .begin => Sys2Proof.Machine.execBegin s
  | .batch => Sys2Proof.Machine.execBatch s
  | .send => Sys2Proof.Machine.execSend s
  | .addr => Sys2Proof.Machine.execAddr s
  | .frame => Sys2Proof.Machine.execFrame s

end Sys2Proof.Machine
end

