-- ==== Sys2Proof/Machine/Bus.lean ====
section
/-! DEFINITION. The host's side: the register map (spec/10_state.md R30 to R46), legal and illegal
accesses (spec/20_memory.md R50 to R59), and a CMD write (spec/10_state.md R36, spec/60_exceptions.md
R225). -/

namespace Sys2Proof.Machine

open Sys2Proof

/-- The register at a byte offset that is a multiple of 4 (10_state section 3). -/
def regAt (off : Nat) : Option Reg :=
  match off with
  | 0x00 => some .id
  | 0x04 => some .config
  | 0x08 => some .dims
  | 0x0C => some .chunk
  | 0x10 => some .grange
  | 0x14 => some .status
  | 0x18 => some .cmd
  | 0x1C => some .argXY
  | 0x20 => some .result
  | 0x24 => some .meas
  | 0x28 => some .faultInfo
  | 0x2C => some .curPtr
  | 0x30 => some .curCol
  | 0x34 => some .surfAddr
  | 0x38 => some .surfData
  | 0x3C => some .batchAddr
  | 0x40 => some .batchData
  | _ => none

/-- The offset of a register (10_state section 3). -/
def Reg.offset : Reg → Nat
  | .id => 0x00
  | .config => 0x04
  | .dims => 0x08
  | .chunk => 0x0C
  | .grange => 0x10
  | .status => 0x14
  | .cmd => 0x18
  | .argXY => 0x1C
  | .result => 0x20
  | .meas => 0x24
  | .faultInfo => 0x28
  | .curPtr => 0x2C
  | .curCol => 0x30
  | .surfAddr => 0x34
  | .surfData => 0x38
  | .batchAddr => 0x3C
  | .batchData => 0x40

/-- Two 16-bit fields as one register. -/
def pair16 (hi lo : BitVec 16) : Word := hi ++ lo

/-- The value a read of a register returns; none where the read is illegal (R53 (c), (e)). -/
def State.readReg (s : State) : Reg → Option Word
  | .id => some 0x50464231#32
  | .config => some (pair16 (BitVec.ofNat 16 (s.cfg.spriteCount - 1)) (BitVec.ofNat 16 s.cfg.ss))
  | .dims => some (pair16 (BitVec.ofNat 16 s.cfg.nh) (BitVec.ofNat 16 s.cfg.nw))
  | .chunk => some (pair16 (BitVec.ofNat 16 s.cfg.nbFrame) (BitVec.ofNat 16 s.cfg.chunkBytes))
  | .grange => some (pair16 (BitVec.ofNat 16 s.cfg.lastCode) (BitVec.ofNat 16 s.cfg.firstCode))
  | .status => some s.statusWord
  | .cmd => none
  | .argXY => some s.argXY
  | .result => some (pair16 s.resH s.resW)
  | .meas => some (pair16 s.measH s.measW)
  | .faultInfo => some s.faultInfo
  | .curPtr => some (s.ptr.setWidth 32)
  | .curCol => some (s.col.setWidth 32)
  | .surfAddr => some (s.surfAddr.setWidth 32)
  | .surfData =>
    if s.surfAddr.toNat < s.cfg.surfBytes then some ((s.surfByte s.surfAddr.toNat).setWidth 32) else none
  | .batchAddr => some (s.batchAddr.setWidth 32)
  | .batchData =>
    if s.batchAddr.toNat < s.cfg.chunkBytes then some ((s.batchByte s.batchAddr.toNat).setWidth 32)
    else none

/-- A write of a register other than CMD; none where the register is read-only (R53 (b)). The two
address registers keep their own bits (R43, R45). -/
def State.writeReg (s : State) (v : Word) : Reg → Option State
  | .argXY => some { s with argXY := v }
  | .surfAddr => some { s with surfAddr := v.extractLsb' 0 24 }
  | .batchAddr => some { s with batchAddr := v.extractLsb' 0 16 }
  | .id => none
  | .config => none
  | .dims => none
  | .chunk => none
  | .grange => none
  | .status => none
  | .cmd => none
  | .result => none
  | .meas => none
  | .faultInfo => none
  | .curPtr => none
  | .curCol => none
  | .surfData => none
  | .batchData => none

/-- The value a read returns goes to the host. -/
def State.reply (s : State) (v : Word) : State := { s with reads := s.reads ++ [v] }

/-- FAULT_INFO of an illegal access: `{15'b0, write, 8'b0, offset[7:0]}` (R223). -/
def accessInfo (off : Nat) (kind : AccessKind) : Word :=
  0#15 ++ (match kind with | .read => 0#1 | .write _ => 1#1) ++ 0#8 ++ BitVec.ofNat 8 off

/-- An illegal access (R53): BAD_ACCESS, unless FAULT is already 1 (R224); a read returns 0. -/
def badAccess (s : State) (off : Nat) (kind : AccessKind) : State :=
  let t := s.raiseFault .badAccess (accessInfo off kind)
  match kind with
  | .read => t.reply 0#32
  | .write _ => t

/-- A CMD write (R36, R225): an illegal word raises ILLEGAL_CMD with the word in FAULT_INFO (R86); a
command runs. Both have no effect while FAULT = 1 (R224). -/
def commandWrite (w : Word) (s : State) : Host.Outcome State Fault Refusal :=
  match decode w with
  | .error _ => .next (s.raiseFault .illegalCmd w)
  | .ok i => exec i s

/-- The byte offset of a bus address in the register block, if it lies there (R50). -/
def blockOffset (c : Config) (addr : Nat) : Option Nat :=
  if c.base ≤ addr ∧ addr < c.base + 0x80 then some (addr - c.base) else none

/-- The register an access reaches: 32 bits wide, at a register's offset (R51, R53 (a), (d)). -/
def accessedReg (off bits : Nat) : Option Reg := if bits = 32 then regAt off else none

/-- One access of the host, performed to completion (R54, R62). -/
def hostAccess (a : HostAccess) (s : State) : Host.Outcome State Fault Refusal :=
  match blockOffset s.cfg a.addr with
  | none => .fault .outsideBlock
  | some off =>
    match accessedReg off a.bits, a.kind with
    | some .cmd, .write w => commandWrite w s
    | some r, .write v =>
      match s.writeReg v r with
      | some t => .next t
      | none => .next (badAccess s off a.kind)
    | some r, .read =>
      match s.readReg r with
      | some v => .next (s.reply v)
      | none => .next (badAccess s off a.kind)
    | none, _ => .next (badAccess s off a.kind)

/-- What the block does in a step without reset: the command in progress goes on if the display port
answers (R181); otherwise the host's next access is performed (R62); with none the block waits
(R252). -/
def runBlock (s : State) : Host.Outcome State Fault Refusal :=
  match s.hold with
  | some _ => .next (pump s.port s)
  | none =>
    match s.bus with
    | [] => .next s
    | a :: rest => hostAccess a { s with bus := rest }

/-- The level of the reset input in this step (R250). -/
def State.resetAsserted (s : State) : Bool := s.resetPin.headD false

/-- The sample of the reset input is used up. -/
def State.samplePin (s : State) : State := { s with resetPin := s.resetPin.tail }

/-- One step: an asserted reset input resets the block (R250), else the block runs. -/
def runStep (s : State) : Host.Outcome State Fault Refusal :=
  if s.resetAsserted then .next s.samplePin.platformReset else runBlock s.samplePin

/-- The host's 32-bit write of `w` to CMD. -/
def cmdWrite (c : Config) (w : Word) : HostAccess := ⟨c.base + 0x18, 32, .write w⟩

end Sys2Proof.Machine
end

