-- ==== Sys2Proof/Machine/Step.lean ====
section
/-! DEFINITION. The step, and how a command is placed so that the next step runs it. -/

namespace Sys2Proof.Machine

open Sys2Proof

/-- One step of the block (log 1): it samples reset, then goes on with the command in progress, or
performs the host's next access, or waits. -/
def step (s : State) : Host.Outcome State Fault Refusal := runStep s

/-- `s` with the host about to write the word to CMD: no command in progress, the reset input low in
the next step, the CMD write first among the host's accesses. Commands come from the host (R36,
R47): a program is loaded from outside the machine (log 2). -/
def State.withFetchWord (s : State) (nbits w : Nat) : State :=
  { s with
    hold := none
    resetPin := false :: s.resetPin
    bus := cmdWrite s.cfg (BitVec.ofNat 32 (w % 2 ^ nbits)) :: s.bus }

end Sys2Proof.Machine
end

