-- ==== Sys2Proof/Safety.lean ====
section
/-! DEFINITION. What counts as a safe run, the invariant of the machine, and the spec-level functions
claims are stated with: the raster of a pass (spec/43_scanout.md R189), the check order
(spec/60_exceptions.md R225), the opcode table (spec/30_encoding.md R85). -/

namespace Sys2Proof.Machine

open Sys2Proof

/-- A safe state: no fault was raised since reset (R220: "the faulted state is never a successful
end"). -/
def State.Safe (s : State) : Prop := s.fault = false

/-- The block may compose or begin a pass: not faulted, Idle. -/
abbrev State.Composing (s : State) : Prop := s.fault = false ∧ s.st = .idle

/-- The state a fault of `code` with `info` leaves from a state that had none (R221). -/
def State.faulted (s : State) (code : BitVec 8) (info : Word) : State :=
  { s with fault := true, faultCode := code, faultInfo := info }

/-- The next step performs the host access `a`; `rest` are the host's later accesses. -/
abbrev State.AboutToAccess (s : State) (a : HostAccess) (rest : List HostAccess) : Prop :=
  s.resetAsserted = false ∧ s.hold = none ∧ s.bus = a :: rest

/-- `s` once the access at the head of the bus is taken: the bus and the reset sample are used up. -/
def State.taken (s : State) (rest : List HostAccess) : State :=
  { s with resetPin := s.resetPin.tail, bus := rest }

/-- Run commands one after the other; none where one of them does not answer a next state. -/
def execAll : List Instr → State → Option State
  | [], s => some s
  | i :: rest, s =>
    match exec i s with
    | .next t => execAll rest t
    | .fault _ => none
    | .refused _ => none

/-- The table of R85: match and mask of each command, in its order. -/
def commandTable : List (Word × Word) :=
  [(0x01000000#32, 0xFFFFFFFF#32), (0x02000000#32, 0xFFFFFFFF#32), (0x03000000#32, 0xFFFF0000#32)] ++
  [(0x10000000#32, 0xFFFF0000#32), (0x11000000#32, 0xFFFF0000#32), (0x12000000#32, 0xFFFF0000#32),
    (0x13000000#32, 0xFFFF0000#32)] ++
  [(0x20000000#32, 0xFFFF0000#32), (0x21000000#32, 0xFFFFFFFF#32), (0x22000000#32, 0xFFFF0000#32)] ++
  [(0x30000000#32, 0xFFFFFFFF#32), (0x31000000#32, 0xFFFFFFFF#32), (0x32000000#32, 0xFFFFFFFF#32),
    (0x33000000#32, 0xFFFFFFFF#32), (0x34000000#32, 0xFFFFFFFF#32)]

/-- A command of format N: its one word is OPC with 24 zero bits, and a CMD write of OPC with any other
bits [23:0] raises ILLEGAL_CMD with the word (R82, R85, R86). -/
def EncodedAsN (opc : BitVec 8) (i : Instr) : Prop :=
  decode (opc ++ 0#24) = .ok i ∧
  ∀ (s : State) (w : Word) (rest : List HostAccess), s.AboutToAccess (cmdWrite s.cfg w) rest →
    s.fault = false → w.extractLsb' 24 8 = opc → w.extractLsb' 0 24 ≠ 0#24 →
    step s = .next ((s.taken rest).faulted 0x01#8 w)

/-- A command of format I: its words are OPC, 8 zero bits and any IMM, and a CMD write of OPC with bits
[23:16] not 0 raises ILLEGAL_CMD with the word (R82, R85, R86). -/
def EncodedAsI (opc : BitVec 8) (command : BitVec 16 → Instr) : Prop :=
  (∀ imm : BitVec 16, decode (opc ++ 0#8 ++ imm) = .ok (command imm)) ∧
  ∀ (s : State) (w : Word) (rest : List HostAccess), s.AboutToAccess (cmdWrite s.cfg w) rest →
    s.fault = false → w.extractLsb' 24 8 = opc → w.extractLsb' 16 8 ≠ 0#8 →
    step s = .next ((s.taken rest).faulted 0x01#8 w)

/-- The commands that fault with PHASE while Streaming (R222, R225 check 3). -/
def needsIdle : Instr → Bool
  | .clear => true
  | .fade => true
  | .scroll _ => true
  | .spr _ => true
  | .sprb _ => true
  | .spr2 _ => true
  | .sprb2 _ => true
  | .glyph _ => true
  | .begin => true
  | .addr => true
  | .frame => true
  | .mclr => false
  | .madd _ => false
  | .batch => false
  | .send => false

/-- The sprite index and the scale of a sprite command (R140). -/
def spriteOperands : Instr → Option (Nat × Nat)
  | .spr k => some (k, 1)
  | .sprb k => some (k, 1)
  | .spr2 k => some (k, 2)
  | .sprb2 k => some (k, 2)
  | .clear => none
  | .fade => none
  | .scroll _ => none
  | .glyph _ => none
  | .mclr => none
  | .madd _ => none
  | .begin => none
  | .batch => none
  | .send => none
  | .addr => none
  | .frame => none

/-- R140's x test for descriptor `d` at scale `sc`. -/
abbrev State.SpriteMisplaced (s : State) (d : Descriptor) (sc : Nat) : Prop :=
  s.argX < 0 ∨ s.argX % 2 ≠ 0 ∨ (s.cfg.surfWidth : Int) < s.argX + (2 * d.rowBytes * sc : Nat)

/-- The exceptions of a sprite command of sprite k at scale `sc` on a block that is not faulted (R140,
R144 to R147): PHASE while Streaming, then SPRITE_INDEX, then SPRITE_HBOUNDS, nothing else changed. -/
def SpriteExceptions (i : Instr) (s : State) (k sc : Nat) : Prop :=
  (s.st = .streaming → exec i s = .next (s.faulted 0x02#8 (encode i))) ∧
  (s.st = .idle → s.cfg.spriteCount ≤ k → exec i s = .next (s.faulted 0x04#8 (encode i))) ∧
  (s.st = .idle → ∀ d, s.cfg.sprites[k]? = some d → s.SpriteMisplaced d sc →
    exec i s = .next (s.faulted 0x05#8 (encode i)))

/-- A glyph's w by h box lies inside the surface (R150). -/
abbrev State.GlyphFits (s : State) (d : Descriptor) : Prop :=
  0 ≤ s.argX ∧ 0 ≤ s.argY ∧ s.argX + d.w.toNat ≤ s.cfg.surfWidth ∧ s.argY + d.h.toNat ≤ s.cfg.surfHeight

/-- Checks 3 to 8 of R225 for a decoded command of a block that is not faulted: the number of the first
fault that applies, if any. -/
def firstFault (s : State) (i : Instr) : Option (BitVec 8) :=
  if needsIdle i && decide (s.st = .streaming) then some 0x02#8
  else if decide (i = .batch) && decide (s.st = .idle) then some 0x03#8
  else
    match spriteOperands i, i with
    | some (k, sc), _ =>
      match s.cfg.sprites[k]? with
      | none => some 0x04#8
      | some d => if s.SpriteMisplaced d sc then some 0x05#8 else none
    | none, .glyph code =>
      match glyphLookup s.cfg code with
      | none => none
      | some d => if s.GlyphFits d then none else some 0x06#8
    | none, _ => if decide (i = .send) && !s.batchValid then some 0x07#8 else none

/-- The value of the q-th native pixel of a pass over the surface of `s` (R189). -/
def rasterPixel (s : State) (q : Nat) : Rgb565 :=
  let x := q % s.cfg.nw
  let y := q / s.cfg.nw
  if s.cfg.ss = 1 then paletteAt s.cfg (s.pix x y)
  else
    avg4 (paletteAt s.cfg (s.pix (2 * x) (2 * y))) (paletteAt s.cfg (s.pix (2 * x + 1) (2 * y)))
      (paletteAt s.cfg (s.pix (2 * x) (2 * y + 1))) (paletteAt s.cfg (s.pix (2 * x + 1) (2 * y + 1)))

/-- Byte n of the output stream of a pass over the surface of `s`: the pixel words in raster order, high
byte first (R61, R189). -/
def frameByte (s : State) (n : Nat) : Byte :=
  if n % 2 = 0 then pixelHigh (rasterPixel s (n / 2)) else pixelLow (rasterPixel s (n / 2))

/-- The payload of the k-th batch of a pass over the surface of `s` (R189). -/
def frameChunk (s : State) (k : Nat) : List Byte :=
  (List.range s.cfg.chunkBytes).map (fun i => frameByte s (k * s.cfg.chunkBytes + i))

/-- The surface byte the encoder reads next when q pixels of the pass are produced (R186, R188). -/
def cursorPtr (c : Config) (q : Nat) : Nat :=
  if c.ss = 1 then q / 2 else q / c.nw * (2 * c.stride) + q % c.nw

/-- Native pixels produced so far in the pass. -/
def State.pixelsDone (s : State) : Nat := s.nb.toNat * s.cfg.batchPixels

/-- What must hold while a command holds at an Emit (R192 to R194). -/
def State.HoldOk (s : State) : Prop :=
  match s.hold with
  | none => True
  | some .send => s.fault = false ∧ s.batchValid = true
  | some .addrColumn => s.Composing
  | some (.addrRow _) => s.Composing
  | some .frameColumn => s.Composing
  | some (.frameRow _) => s.Composing
  | some (.frameData _) => s.fault = false ∧ s.batchValid = true ∧ 0 < s.nb.toNat

/-- The invariant of the machine: an admitted configuration; memories in canonical form, inside their
ranges; the batch buffer filled once BATCH_VALID; the cursor where the number of batches puts it
(R186 to R190); Idle exactly between passes (R182, R187); clean fault registers without a fault and a
listed code with one (R222); a command in progress only where it may be. -/
structure State.Inv (s : State) : Prop where
  cfg_wf : s.cfg.wf = true
  surf_wf : s.surf.wf
  surf_inside : ∀ c ∈ s.surf, c.1 < s.cfg.surfBytes
  batch_wf : s.batch.wf
  batch_inside : ∀ c ∈ s.batch, c.1 < s.cfg.chunkBytes
  batch_filled : s.batchValid = true → ∀ i < s.cfg.chunkBytes, s.batch.read i ≠ none
  ptr_eq : s.ptr.toNat = cursorPtr s.cfg s.pixelsDone
  col_eq : s.col.toNat = s.pixelsDone % s.cfg.nw
  idle_nb : s.st = .idle → s.nb.toNat = 0 ∨ s.nb.toNat = s.cfg.nbFrame
  streaming_nb : s.st = .streaming → s.nb.toNat < s.cfg.nbFrame
  nb_valid : 0 < s.nb.toNat → s.batchValid = true
  no_fault_clean : s.fault = false → s.faultCode = 0#8 ∧ s.faultInfo = 0#32
  fault_listed : s.fault = true → 1 ≤ s.faultCode.toNat ∧ s.faultCode.toNat ≤ 8
  hold_ok : s.HoldOk

end Sys2Proof.Machine
end

