-- ==== Sys2Proof/Certificates/Slice0/Obligations.lean ====
section
/-! DEFINITION. The statements about the block, for the provers. Each docstring names the rule of spec/
it formalises. Statements of an effect give the whole next state, so they state the frame as well. -/

open Sys2Proof Sys2Proof.Machine

/-! ### Encoding -/

/-- Decoding the word of a well-formed command gives the command back (R85, R88). -/
def Obligations.DecodeOfEncode : Prop :=
  ∀ i : Instr, i.wf = true → decode (encode i) = .ok i

/-- A word that decodes is the encoding of its command, and the command is well formed: no two words are
one command, no bit of a word is ignored (R85, R88). -/
def Obligations.EncodeOfDecode : Prop :=
  ∀ (w : Word) (i : Instr), decode w = .ok i → encode i = w ∧ i.wf = true

/-- R85, R86: a word is a command exactly when one row of the table of R85 matches it under its mask,
and no word matches two rows. -/
def Obligations.WordsAreTableRowsOrIllegal : Prop :=
  (∀ w : Word, (∃ i, decode w = .ok i) ↔ ∃ row ∈ commandTable, w &&& row.2 = row.1) ∧
  (∀ w : Word, ∀ r1 ∈ commandTable, ∀ r2 ∈ commandTable,
    w &&& r1.2 = r1.1 → w &&& r2.2 = r2.1 → r1 = r2)

/-- Words written out from R85's table decode to their commands (95_test_vectors sections 3 to 5). -/
def Obligations.SampleWordsDecode : Prop :=
  decode 0x01000000#32 = .ok .clear ∧ decode 0x0300FFFD#32 = .ok (.scroll (-3)) ∧
  decode 0x13000001#32 = .ok (.sprb2 1) ∧ decode 0x20000030#32 = .ok (.glyph 0x30) ∧
  decode 0x22000031#32 = .ok (.madd 0x31) ∧ decode 0x34000000#32 = .ok .frame ∧
  decode 0x00000000#32 = .error .unknownOpcode ∧ decode 0x01000001#32 = .error .reservedBit ∧
  decode 0x03010000#32 = .error .reservedBit

/-! ### The step, host accesses, faults -/

/-- A step in which the host writes the word of a command to CMD is `exec` of that command, in the state
whose bus no longer holds that access (R36, R62, R88; how accesses stand in State is log 1, 2, 4). -/
def Obligations.StepRunsDecodedCommand : Prop :=
  ∀ (s : State) (w : Word) (i : Instr) (rest : List HostAccess),
    s.AboutToAccess (cmdWrite s.cfg w) rest → decode w = .ok i → step s = exec i (s.taken rest)

/-- R86: a CMD write of a word that no row of R85 matches raises ILLEGAL_CMD (code 1) with the word in
FAULT_INFO, and changes nothing else; a word that a row matches is matched by no other row and is run as
the one command it is. -/
def Obligations.IllegalWordFaults : Prop :=
  ∀ (s : State) (w : Word) (rest : List HostAccess),
    s.AboutToAccess (cmdWrite s.cfg w) rest → s.fault = false →
    ((∀ row ∈ commandTable, w &&& row.2 ≠ row.1) →
      step s = .next ((s.taken rest).faulted 0x01#8 w)) ∧
    ∀ row ∈ commandTable, w &&& row.2 = row.1 →
      (∀ other ∈ commandTable, w &&& other.2 = other.1 → other = row) ∧
      ∃ i, decode w = .ok i ∧ step s = exec i (s.taken rest)

/-- R225: a CMD write has no effect while FAULT = 1; an illegal word raises ILLEGAL_CMD; of a command's
checks 3 to 8 the first that applies is the fault raised, with the word in FAULT_INFO and nothing else
changed; where none applies the command's rule is executed, and raises no fault. -/
def Obligations.ChecksInOrder : Prop :=
  ∀ (s : State) (w : Word) (rest : List HostAccess), s.AboutToAccess (cmdWrite s.cfg w) rest →
    (s.fault = true → step s = .next (s.taken rest)) ∧
    (s.fault = false →
      (∀ e, decode w = .error e → step s = .next ((s.taken rest).faulted 0x01#8 w)) ∧
      (∀ i code, decode w = .ok i → firstFault s i = some code →
        step s = .next ((s.taken rest).faulted code w)) ∧
      (∀ i, decode w = .ok i → firstFault s i = none →
        step s = exec i (s.taken rest) ∧ ∃ t, step s = .next t ∧ t.fault = false))

/-- Faults are precise (60_exceptions section 1): a command that raises a fault leaves every piece of
state but the three fault registers as it was. -/
def Obligations.FaultingCommandChangesNothingElse : Prop :=
  ∀ (i : Instr) (s t : State), s.fault = false → exec i s = .next t → t.fault = true →
    ∃ c : FaultCode, t = s.faulted c.bits (encode i)

/-- The meaning of every command on a faulted state is to change nothing (R224). -/
def Obligations.FaultedCommandsHaveNoEffect : Prop :=
  ∀ (i : Instr) (s : State), s.fault = true → exec i s = .next s

/-- Only reset leaves the fault state (R224, R251): every other step of a faulted block changes at most
ARG_XY, SURF_ADDR and BATCH_ADDR, beside the accesses used up and the values read. -/
def Obligations.FaultStaysUntilReset : Prop :=
  ∀ s t : State, s.fault = true → s.hold = none → s.resetAsserted = false → step s = .next t →
    ∃ a b c bus reads, t = { s with
      argXY := a, surfAddr := b, batchAddr := c, bus := bus, reads := reads, resetPin := s.resetPin.tail }

/-- An offset and direction that R53 makes illegal, beside the accesses of R51: (a) reserved offsets,
(b) a write of a read-only register, (c) a read of CMD, (d) another width or alignment, (e) a data-port
read out of range. -/
def Obligations.IllegalAccessFaults : Prop :=
  ∀ (s : State) (off bits : Nat) (kind : AccessKind) (rest : List HostAccess),
    off < 0x80 → s.AboutToAccess ⟨s.cfg.base + off, bits, kind⟩ rest →
    (bits ≠ 32 ∨ off % 4 ≠ 0 ∨ 0x44 ≤ off ∨
      (kind ≠ .read ∧ off ∈ [0x00, 0x04, 0x08, 0x0C, 0x10, 0x14, 0x20, 0x24, 0x28, 0x2C, 0x30, 0x38, 0x40]) ∨
      (kind = .read ∧ off = 0x18) ∨
      (kind = .read ∧ off = 0x38 ∧ s.cfg.surfBytes ≤ s.surfAddr.toNat) ∨
      (kind = .read ∧ off = 0x40 ∧ s.cfg.chunkBytes ≤ s.batchAddr.toNat)) →
    let t := s.taken rest
    let u := if s.fault then t
      else t.faulted 0x08#8 (BitVec.ofNat 32 ((if kind = .read then 0 else 0x10000) + off))
    step s = .next (if kind = .read then { u with reads := u.reads ++ [0#32] } else u)

/-- What a read of a register returns, as a number (R30 to R43, R45): the fields at the positions the
rules give them. Reading changes nothing but the host's record of values read (R54). -/
def Obligations.RegistersReadTheirFields : Prop :=
  ∀ (s : State) (off v : Nat) (rest : List HostAccess), s.cfg.wf = true →
    s.AboutToAccess ⟨s.cfg.base + off, 32, .read⟩ rest →
    ((off = 0x00 ∧ v = 0x50464231) ∨
      (off = 0x04 ∧ v = (s.cfg.spriteCount - 1) * 65536 + s.cfg.ss) ∨
      (off = 0x08 ∧ v = s.cfg.nh * 65536 + s.cfg.nw) ∨
      (off = 0x0C ∧ v = s.cfg.nbFrame * 65536 + s.cfg.chunkBytes) ∨
      (off = 0x10 ∧ v = s.cfg.lastCode * 65536 + s.cfg.firstCode) ∨
      (off = 0x14 ∧ v = s.nb.toNat * 65536 + s.faultCode.toNat * 256 + s.xferFail.toNat * 16 +
        s.batchValid.toNat * 8 + s.gfound.toNat * 4 + s.fault.toNat * 2 +
        (decide (s.st = .streaming)).toNat) ∨
      (off = 0x1C ∧ v = s.argXY.toNat) ∨
      (off = 0x20 ∧ v = s.resH.toNat * 65536 + s.resW.toNat) ∨
      (off = 0x24 ∧ v = s.measH.toNat * 65536 + s.measW.toNat) ∨
      (off = 0x28 ∧ v = s.faultInfo.toNat) ∨
      (off = 0x2C ∧ v = s.ptr.toNat) ∨
      (off = 0x30 ∧ v = s.col.toNat) ∨
      (off = 0x34 ∧ v = s.surfAddr.toNat) ∨
      (off = 0x3C ∧ v = s.batchAddr.toNat)) →
    step s = .next { s.taken rest with reads := s.reads ++ [BitVec.ofNat 32 v] }

/-- R58, R59: SURF_DATA and BATCH_DATA return the addressed byte while the address is in range, in both
scan-out states and also while FAULT = 1; beyond the range the read is an illegal access: BAD_ACCESS with
the offset, and 0 is returned (R53; nothing but that while FAULT = 1). -/
def Obligations.DataPortsReadInRange : Prop :=
  ∀ (s : State) (rest : List HostAccess),
    (s.AboutToAccess ⟨s.cfg.base + 0x38, 32, .read⟩ rest →
      (s.surfAddr.toNat < s.cfg.surfBytes →
        step s = .next { s.taken rest with
          reads := s.reads ++ [BitVec.ofNat 32 (s.surfByte s.surfAddr.toNat).toNat] }) ∧
      (s.cfg.surfBytes ≤ s.surfAddr.toNat → s.fault = false →
        step s = .next { (s.taken rest).faulted 0x08#8 0x00000038#32 with reads := s.reads ++ [0#32] }) ∧
      (s.cfg.surfBytes ≤ s.surfAddr.toNat → s.fault = true →
        step s = .next { s.taken rest with reads := s.reads ++ [0#32] })) ∧
    (s.AboutToAccess ⟨s.cfg.base + 0x40, 32, .read⟩ rest →
      (s.batchAddr.toNat < s.cfg.chunkBytes →
        step s = .next { s.taken rest with
          reads := s.reads ++ [BitVec.ofNat 32 (s.batchByte s.batchAddr.toNat).toNat] }) ∧
      (s.cfg.chunkBytes ≤ s.batchAddr.toNat → s.fault = false →
        step s = .next { (s.taken rest).faulted 0x08#8 0x00000040#32 with reads := s.reads ++ [0#32] }) ∧
      (s.cfg.chunkBytes ≤ s.batchAddr.toNat → s.fault = true →
        step s = .next { s.taken rest with reads := s.reads ++ [0#32] }))

/-- A write of ARG_XY, SURF_ADDR or BATCH_ADDR stores the bits of its field and changes nothing else,
also while Streaming and while FAULT = 1 (R37, R43, R45, R54). -/
def Obligations.OperandRegisterWritesStore : Prop :=
  ∀ (s : State) (v : Word) (rest : List HostAccess),
    (s.AboutToAccess ⟨s.cfg.base + 0x1C, 32, .write v⟩ rest →
      step s = .next { s.taken rest with argXY := v }) ∧
    (s.AboutToAccess ⟨s.cfg.base + 0x34, 32, .write v⟩ rest →
      step s = .next { s.taken rest with surfAddr := BitVec.ofNat 24 (v.toNat % 2 ^ 24) }) ∧
    (s.AboutToAccess ⟨s.cfg.base + 0x3C, 32, .write v⟩ rest →
      step s = .next { s.taken rest with batchAddr := BitVec.ofNat 16 (v.toNat % 2 ^ 16) })

/-- The model stops on one kind of step only: a host access that does not reach the block (R50; the
model's choice, log 9). Every such access stops it with outsideBlock, and every other step answers a next
state. -/
def Obligations.StepStopsOnlyOutsideTheBlock : Prop :=
  (∀ s : State,
    (∃ t, step s = .next t) ∨
    (step s = .fault .outsideBlock ∧ ∃ a rest, s.AboutToAccess a rest ∧
      (a.addr < s.cfg.base ∨ s.cfg.base + 0x80 ≤ a.addr))) ∧
  ∀ (s : State) (a : HostAccess) (rest : List HostAccess), s.AboutToAccess a rest →
    a.addr < s.cfg.base ∨ s.cfg.base + 0x80 ≤ a.addr → step s = .fault .outsideBlock

/-- No command writes the operand registers or the configuration, takes an access from the host's bus or
answers a read (R6, R37, R43, R45; the model's own fields are log 2, 4, 5, 11). -/
def Obligations.CommandsKeepHostRegisters : Prop :=
  ∀ (i : Instr) (s t : State), exec i s = .next t →
    t.cfg = s.cfg ∧ t.argXY = s.argXY ∧ t.surfAddr = s.surfAddr ∧ t.batchAddr = s.batchAddr ∧
    t.bus = s.bus ∧ t.reads = s.reads ∧ t.resetPin = s.resetPin ∧ t.resets = s.resets

/-- Each piece of state is written only by the commands the rules name (R26 to R29, R35, R64): what a
command of another kind does leaves it as it was. A fault writes the fault registers alone. -/
def Obligations.StateIsWrittenOnlyByItsCommands : Prop :=
  ∀ (i : Instr) (s t : State), exec i s = .next t →
    (t.surf ≠ s.surf → i = .clear ∨ i = .fade ∨ (∃ d, i = .scroll d) ∨ (∃ k, i = .spr k) ∨
      (∃ k, i = .sprb k) ∨ (∃ k, i = .spr2 k) ∨ (∃ k, i = .sprb2 k) ∨ ∃ code, i = .glyph code) ∧
    (t.batch ≠ s.batch ∨ t.batchValid ≠ s.batchValid → i = .batch ∨ i = .frame) ∧
    (t.st ≠ s.st ∨ t.ptr ≠ s.ptr ∨ t.col ≠ s.col ∨ t.nb ≠ s.nb → i = .begin ∨ i = .batch ∨ i = .frame) ∧
    (t.resW ≠ s.resW ∨ t.resH ≠ s.resH → ∃ code, i = .glyph code) ∧
    (t.gfound ≠ s.gfound → (∃ code, i = .glyph code) ∨ ∃ code, i = .madd code) ∧
    (t.measW ≠ s.measW ∨ t.measH ≠ s.measH → i = .mclr ∨ ∃ code, i = .madd code) ∧
    (t.xferFail ≠ s.xferFail ∨ t.displayLog ≠ s.displayLog ∨ t.port ≠ s.port ∨ t.hold ≠ s.hold →
      i = .send ∨ i = .addr ∨ i = .frame)

/-! ### Reset and the invariant -/

/-- R48: the state after reset, for every configuration. The bytes of the surface and of the batch
buffer are free values, so nothing is said of them but that (log 5). -/
def Obligations.ResetValues : Prop :=
  ∀ c : Config, let s := State.resetFor c
    (∀ i, s.surfByte i = Config.powerOnSurf 0 i) ∧ (∀ i, s.batchByte i = Config.powerOnBatch 0 i) ∧
    s.st = .idle ∧ s.ptr = 0#24 ∧ s.col = 0#16 ∧ s.nb = 0#16 ∧ s.batchValid = false ∧
    s.resW = 0#16 ∧ s.resH = 0#16 ∧ s.gfound = false ∧ s.measW = 0#16 ∧ s.measH = 0#16 ∧
    s.fault = false ∧ s.faultCode = 0#8 ∧ s.faultInfo = 0#32 ∧ s.xferFail = false ∧
    s.argXY = 0#32 ∧ s.surfAddr = 0#24 ∧ s.batchAddr = 0#16 ∧ s.cfg = c ∧
    s.readReg .status = some 0#32 ∧ s.readReg .id = some 0x50464231#32 ∧
    s.readReg .config = some (BitVec.ofNat 16 (c.spriteCount - 1) ++ BitVec.ofNat 16 c.ss) ∧
    s.readReg .dims = some (BitVec.ofNat 16 c.nh ++ BitVec.ofNat 16 c.nw) ∧
    s.readReg .chunk = some (BitVec.ofNat 16 c.nbFrame ++ BitVec.ofNat 16 c.chunkBytes) ∧
    s.readReg .grange = some (BitVec.ofNat 16 c.lastCode ++ BitVec.ofNat 16 c.firstCode)

/-- R250: a step with reset asserted gives every piece of the block's state its reset value, whatever
was in progress, with fresh draws for the surface and the batch buffer. What the outside world holds is
kept (the model's choice, log 4, 11, 12). -/
def Obligations.ResetAtAnyStep : Prop :=
  ∀ s : State, s.resetAsserted = true →
    step s = .next { State.resetFor s.cfg with
      displayLog := s.displayLog, bus := s.bus, port := s.port, resetPin := s.resetPin.tail
      reads := s.reads, resets := s.resets + 1 }

/-- The state after reset meets the invariant, for every admitted configuration (R8, R48). -/
def Obligations.ResetMeetsInvariant : Prop :=
  ∀ c : Config, c.wf = true → (State.resetFor c).Inv

/-- Every step keeps the invariant: memories canonical and inside their ranges, the cursor where the
batch count puts it, Idle exactly between passes, fault registers consistent, a transfer in progress
only where it may be (R182, R187, R190, R222). -/
def Obligations.StepKeepsInvariant : Prop :=
  ∀ s t : State, s.Inv → step s = .next t → t.Inv

/-- "Each is fixed for the life of the block": no step changes the configuration, a reset
included (R6). -/
def Obligations.ConfigurationNeverChanges : Prop :=
  ∀ s t : State, step s = .next t → t.cfg = s.cfg

/-- R8's conditions make the surface and the frame whole numbers of chunks: NB_FRAME batches carry the
frame exactly; at SS = 2 they are SURF_BYTES / CHUNK_BYTES, at SS = 1 four times as many (R191). -/
def Obligations.FrameIsWholeChunks : Prop :=
  ∀ c : Config, c.wf = true →
    0 < c.nbFrame ∧ c.nbFrame * c.chunkBytes = c.frameOutBytes ∧
    (c.ss = 2 → c.nbFrame * c.chunkBytes = c.surfBytes) ∧
    (c.ss = 1 → c.nbFrame * c.chunkBytes = 4 * c.surfBytes)

/-! ### Pixels and the codec -/

/-- A pixel written is read back, every other pixel is unchanged, the other nibble of its byte
among them, and so is every other byte (R55, R56). -/
def Obligations.PixelWriteChangesOnePixel : Prop :=
  ∀ (s : State) (x y : Nat) (v : Nibble), s.cfg.surfWidth % 2 = 0 → x < s.cfg.surfWidth →
    (∀ x' y', x' < s.cfg.surfWidth →
      (s.setPix x y v).pix x' y' = if x' = x ∧ y' = y then v else s.pix x' y') ∧
    (∀ i, i ≠ y * s.cfg.stride + x / 2 → (s.setPix x y v).surfByte i = s.surfByte i) ∧
    ∃ m, s.setPix x y v = { s with surf := m }

/-- Unexpanding an expanded colour gives it back (R103's round trip). -/
def Obligations.ExpandRoundTrip : Prop := ∀ v : Rgb565, unexpand (expand v) = v

/-- `pack` keeps the top 5, 6 and 5 bits of its channels, red most significant (R100). -/
def Obligations.PackKeepsTopBits : Prop :=
  ∀ r g b : BitVec 8,
    (pack r g b).toNat = r.toNat / 8 * 2048 + g.toNat / 4 * 32 + b.toNat / 8 ∧
    (redOf (pack r g b)).toNat = r.toNat / 8 ∧ (greenOf (pack r g b)).toNat = g.toNat / 4 ∧
    (blueOf (pack r g b)).toNat = b.toNat / 8

/-- The box filter averages each channel on its own, rounding down: no channel bleeds into another
(R104's per-channel result). -/
def Obligations.BoxFilterAveragesEachChannel : Prop :=
  ∀ a b c d : Rgb565,
    (redOf (avg4 a b c d)).toNat =
      ((redOf a).toNat + (redOf b).toNat + (redOf c).toNat + (redOf d).toNat) / 4 ∧
    (greenOf (avg4 a b c d)).toNat =
      ((greenOf a).toNat + (greenOf b).toNat + (greenOf c).toNat + (greenOf d).toNat) / 4 ∧
    (blueOf (avg4 a b c d)).toNat =
      ((blueOf a).toNat + (blueOf b).toNat + (blueOf c).toNat + (blueOf d).toNat) / 4

/-! ### Surface commands -/

/-- R120: CLEAR completes with every surface byte 0 and nothing else changed; while Streaming it faults
with PHASE. Its word is 0x01000000. -/
def Obligations.ClearZeroesTheSurface : Prop :=
  EncodedAsN 0x01#8 .clear ∧
  ∀ s : State, s.fault = false →
    (s.st = .idle →
      ∃ m, exec .clear s = .next { s with surf := m } ∧
        (∀ i < s.cfg.surfBytes, m.read i = some 0#8) ∧
        ∀ i, s.cfg.surfBytes ≤ i → m.read i = s.surf.read i) ∧
    (s.st = .streaming → exec .clear s = .next (s.faulted 0x02#8 0x01000000#32))

/-- R121: FADE completes with both nibbles of every surface byte less 1, saturating at 0, and nothing
else changed; while Streaming it faults with PHASE. Its word is 0x02000000. -/
def Obligations.FadeDecrementsEveryNibble : Prop :=
  EncodedAsN 0x02#8 .fade ∧
  ∀ s : State, s.fault = false →
    (s.st = .idle →
      ∃ m, exec .fade s = .next { s with surf := m } ∧
        (∀ i < s.cfg.surfBytes, ∃ b, m.read i = some b ∧
          (loNibble b).toNat = (loNibble (s.surfByte i)).toNat - 1 ∧
          (hiNibble b).toNat = (hiNibble (s.surfByte i)).toNat - 1) ∧
        ∀ i, s.cfg.surfBytes ≤ i → m.read i = s.surf.read i) ∧
    (s.st = .streaming → exec .fade s = .next (s.faulted 0x02#8 0x02000000#32))

/-- After n FADEs every nibble is n less, saturating at 0: "a nibble of value n reaches 0 after exactly
n FADEs and stays 0" (41_surface, R121's corner cases). -/
def Obligations.FadesReachZeroAfterNibbleValue : Prop :=
  ∀ (n : Nat) (s : State), s.Composing →
    ∃ t, execAll (List.replicate n .fade) s = some t ∧
      ∀ i < s.cfg.surfBytes,
        (loNibble (t.surfByte i)).toNat = (loNibble (s.surfByte i)).toNat - n ∧
        (hiNibble (t.surfByte i)).toNat = (hiNibble (s.surfByte i)).toNat - n

/-- R122: SCROLL completes; with D the clamped delta, row r holds old row r - D where that row exists,
and keeps its own (stale) content otherwise; at D = 0 the surface is unchanged, and nothing but the
surface changes; while Streaming it faults with PHASE. Its words are 0x03000000 with any IMM. -/
def Obligations.ScrollMovesRows : Prop :=
  EncodedAsI 0x03#8 (fun imm => .scroll imm.toInt) ∧
  ∀ (s : State) (d : Int), s.fault = false →
    (s.st = .idle →
      let H : Int := s.cfg.surfHeight
      let D : Int := max (-(H - 1)) (min (H - 1) d)
      ∃ m, exec (.scroll d) s = .next { s with surf := m } ∧
        (D = 0 → m = s.surf) ∧
        (∀ r c : Nat, r < s.cfg.surfHeight → c < s.cfg.stride →
          State.surfByte { s with surf := m } (r * s.cfg.stride + c) =
            if 0 ≤ (r : Int) - D ∧ (r : Int) - D < H then
              s.surfByte (((r : Int) - D).toNat * s.cfg.stride + c)
            else s.surfByte (r * s.cfg.stride + c)) ∧
        ∀ i, s.cfg.surfBytes ≤ i → m.read i = s.surf.read i) ∧
    (s.st = .streaming → exec (.scroll d) s = .next (s.faulted 0x02#8 (encode (.scroll d))))

/-! ### Sprites -/

/-- R140: an index outside SPRITES faults with SPRITE_INDEX, a placement that is odd, negative or past
the right edge with SPRITE_HBOUNDS, whichever rows would be drawn; nothing else changes. -/
def Obligations.MisplacedSpritesFault : Prop :=
  ∀ (s : State) (k : Nat), s.Composing →
    ∀ p ∈ [(Instr.spr k, 1), (Instr.sprb k, 1), (Instr.spr2 k, 2), (Instr.sprb2 k, 2)],
      (s.cfg.spriteCount ≤ k → exec p.1 s = .next (s.faulted 0x04#8 (encode p.1))) ∧
      (∀ d, s.cfg.sprites[k]? = some d → s.SpriteMisplaced d p.2 →
        exec p.1 s = .next (s.faulted 0x05#8 (encode p.1)))

/-- R144: SPR completes; every byte of a drawn row becomes the sprite's byte, and nothing else
changes; its exceptions are those of R140 and PHASE. -/
def Obligations.SprCopiesTheSprite : Prop :=
  EncodedAsI 0x10#8 (fun imm => .spr imm.toNat) ∧
  ∀ (s : State) (k : Nat), s.fault = false →
    SpriteExceptions (.spr k) s k 1 ∧
    ∀ d, s.st = .idle → s.cfg.sprites[k]? = some d → ¬ s.SpriteMisplaced d 1 →
      ∃ m, exec (.spr k) s = .next { s with surf := m } ∧
        (∀ j < d.h.toNat, s.drawnRow 1 j → ∀ c < d.rowBytes,
          m.read (s.dst (s.outRow 1 j) c) = some (spriteSrc s.cfg d j c)) ∧
        ∀ i, (∀ j < d.h.toNat, s.drawnRow 1 j → ∀ c < d.rowBytes, i ≠ s.dst (s.outRow 1 j) c) →
          m.read i = s.surf.read i

/-- R143, R145: SPRB completes; in every byte of a drawn row each nibble becomes the sprite's where that
is nonzero and is unchanged where it is 0, and nothing else changes; its exceptions are those of SPR. -/
def Obligations.SprbBlendsTheSprite : Prop :=
  EncodedAsI 0x11#8 (fun imm => .sprb imm.toNat) ∧
  ∀ (s : State) (k : Nat), s.fault = false →
    SpriteExceptions (.sprb k) s k 1 ∧
    ∀ d, s.st = .idle → s.cfg.sprites[k]? = some d → ¬ s.SpriteMisplaced d 1 →
      ∃ m, exec (.sprb k) s = .next { s with surf := m } ∧
        (∀ j < d.h.toNat, s.drawnRow 1 j → ∀ c < d.rowBytes,
          let a := s.dst (s.outRow 1 j) c
          let old := s.surfByte a
          let src := spriteSrc s.cfg d j c
          ∃ b, m.read a = some b ∧
            loNibble b = (if loNibble src ≠ 0#4 then loNibble src else loNibble old) ∧
            hiNibble b = (if hiNibble src ≠ 0#4 then hiNibble src else hiNibble old)) ∧
        ∀ i, (∀ j < d.h.toNat, s.drawnRow 1 j → ∀ c < d.rowBytes, i ≠ s.dst (s.outRow 1 j) c) →
          m.read i = s.surf.read i

/-- R146: SPR2 completes; of a drawn source row each source byte becomes two bytes in both output rows,
its low nibble doubled and then its high nibble doubled, so that each source pixel is a 2x2 block; nothing
else changes; its exceptions are those of SPR at scale 2. -/
def Obligations.Spr2CopiesTwoByTwo : Prop :=
  EncodedAsI 0x12#8 (fun imm => .spr2 imm.toNat) ∧
  ∀ (s : State) (k : Nat), s.fault = false →
    SpriteExceptions (.spr2 k) s k 2 ∧
    ∀ d, s.st = .idle → s.cfg.sprites[k]? = some d → ¬ s.SpriteMisplaced d 2 →
      ∃ m, exec (.spr2 k) s = .next { s with surf := m } ∧
        (∀ j < d.h.toNat, s.drawnRow 2 j → ∀ b < 2, ∀ c < d.rowBytes,
          let src := spriteSrc s.cfg d j c
          m.read (s.dst (s.outRow 2 j + b) (2 * c)) = some (nibbles (loNibble src) (loNibble src)) ∧
          m.read (s.dst (s.outRow 2 j + b) (2 * c + 1)) = some (nibbles (hiNibble src) (hiNibble src))) ∧
        ∀ i, (∀ j < d.h.toNat, s.drawnRow 2 j → ∀ b < 2, ∀ c < 2 * d.rowBytes,
            i ≠ s.dst (s.outRow 2 j + b) c) →
          m.read i = s.surf.read i

/-- R147: SPRB2 completes; the first output row of a drawn source row is the blend of its old content
with the doubled source, the second a copy of the first (COPY_ROW1) or the blend of its own old content
(BLEND_INDEPENDENT); nothing else changes; its exceptions are those of SPR2. -/
def Obligations.Sprb2BlendsTwoByTwo : Prop :=
  EncodedAsI 0x13#8 (fun imm => .sprb2 imm.toNat) ∧
  ∀ (s : State) (k : Nat), s.fault = false →
    SpriteExceptions (.sprb2 k) s k 2 ∧
    ∀ d, s.st = .idle → s.cfg.sprites[k]? = some d → ¬ s.SpriteMisplaced d 2 →
      ∃ m, exec (.sprb2 k) s = .next { s with surf := m } ∧
        (∀ j < d.h.toNat, s.drawnRow 2 j → ∀ c < 2 * d.rowBytes,
          let a0 := s.dst (s.outRow 2 j) c
          let a1 := s.dst (s.outRow 2 j + 1) c
          let src := spriteEx s.cfg d j c
          m.read a0 = some (blendByte (s.surfByte a0) src) ∧
          m.read a1 = some (match s.cfg.row2 with
            | .copyRow1 => blendByte (s.surfByte a0) src
            | .blendIndependent => blendByte (s.surfByte a1) src)) ∧
        ∀ i, (∀ j < d.h.toNat, s.drawnRow 2 j → ∀ b < 2, ∀ c < 2 * d.rowBytes,
            i ≠ s.dst (s.outRow 2 j + b) c) →
          m.read i = s.surf.read i

/-- Every byte a sprite command stores to lies inside the surface (20_memory, R60: "every surface access
of a command lies inside the surface"), at both scales. -/
def Obligations.SpriteStoresStayInside : Prop :=
  ∀ (s : State) (d : Descriptor) (sc : Nat), s.cfg.wf = true → sc = 1 ∨ sc = 2 →
    ¬ s.SpriteMisplaced d sc →
    ∀ j, s.drawnRow sc j → ∀ b < sc, ∀ c < d.rowBytes * sc,
      s.dst (s.outRow sc j + b) c < s.cfg.surfBytes

/-! ### Glyphs and measurement -/

/-- R150: GLYPH of an unknown code writes GFOUND, RES_W and RES_H 0 and nothing else; of a known code
whose box is not inside the surface it faults with GLYPH_BOUNDS; otherwise it completes: every set bit's
pixel is ORed with the ink of its column's parity, every other pixel and every byte outside the box is
unchanged, and GFOUND, RES_W, RES_H report the glyph. While Streaming it faults with PHASE first. -/
def Obligations.GlyphDrawsInk : Prop :=
  EncodedAsI 0x20#8 (fun imm => .glyph imm.toNat) ∧
  ∀ (s : State) (code : Nat), s.cfg.wf = true → s.fault = false →
    (s.st = .streaming → exec (.glyph code) s = .next (s.faulted 0x02#8 (encode (.glyph code)))) ∧
    (s.st = .idle → code < s.cfg.firstCode ∨ s.cfg.lastCode < code →
      exec (.glyph code) s = .next { s with gfound := false, resW := 0#16, resH := 0#16 }) ∧
    (s.st = .idle → s.cfg.firstCode ≤ code → code ≤ s.cfg.lastCode →
      ∃ d, s.cfg.glyphs[code - s.cfg.firstCode]? = some d ∧
        (¬ s.GlyphFits d → exec (.glyph code) s = .next (s.faulted 0x06#8 (encode (.glyph code)))) ∧
        (s.GlyphFits d →
          ∃ m, exec (.glyph code) s =
              .next { s with surf := m, gfound := true, resW := d.w, resH := d.h } ∧
            (∀ x y : Nat, x < s.cfg.surfWidth →
              State.pix { s with surf := m } x y =
                if s.argX ≤ x ∧ (x : Int) < s.argX + d.w.toNat ∧ s.argY ≤ y ∧
                    (y : Int) < s.argY + d.h.toNat ∧
                    glyphBit s.cfg d (x - s.argX.toNat) (y - s.argY.toNat) then
                  s.pix x y ||| (if x % 2 = 0 then s.cfg.glyphInkEven else s.cfg.glyphInkOdd)
                else s.pix x y) ∧
            ∀ i, (∀ x y : Nat, s.argX ≤ x → (x : Int) < s.argX + d.w.toNat → s.argY ≤ y →
                (y : Int) < s.argY + d.h.toNat → i ≠ pixByte s.cfg x y) →
              m.read i = s.surf.read i))

/-- Drawing a glyph twice gives the same surface as drawing it once ("OR is idempotent",
42_compositor, R150's corner cases). -/
def Obligations.GlyphTwiceIsGlyphOnce : Prop :=
  ∀ (s t u : State) (code : Nat), s.cfg.wf = true → exec (.glyph code) s = .next t →
    exec (.glyph code) t = .next u → ∀ i, u.surfByte i = t.surfByte i

/-- R151: MCLR completes in both scan-out states with MEAS 0 and nothing else changed. -/
def Obligations.MclrClearsMeasurement : Prop :=
  EncodedAsN 0x21#8 .mclr ∧
  ∀ s : State, s.fault = false → exec .mclr s = .next { s with measW := 0#16, measH := 0#16 }

/-- R152: MADD completes in both scan-out states: a known code adds its width (mod 2^16), raises the
height to the maximum and sets GFOUND; an unknown code clears GFOUND; nothing else changes. -/
def Obligations.MaddAccumulates : Prop :=
  EncodedAsI 0x22#8 (fun imm => .madd imm.toNat) ∧
  ∀ (s : State) (code : Nat), s.fault = false → s.cfg.wf = true →
    (code < s.cfg.firstCode ∨ s.cfg.lastCode < code →
      exec (.madd code) s = .next { s with gfound := false }) ∧
    (s.cfg.firstCode ≤ code → code ≤ s.cfg.lastCode →
      ∃ d, s.cfg.glyphs[code - s.cfg.firstCode]? = some d ∧
        exec (.madd code) s = .next { s with
          measW := BitVec.ofNat 16 ((s.measW.toNat + d.w.toNat) % 65536)
          measH := BitVec.ofNat 16 (max s.measH.toNat d.h.toNat)
          gfound := true })

/-- MCLR and then MADD of each code of a text measures it: MEAS_W is the sum of the widths mod 2^16,
MEAS_H the greatest height (42_compositor, R153). -/
def Obligations.MeasuringAText : Prop :=
  ∀ (s : State) (ds : List (Nat × Descriptor)), s.fault = false →
    (∀ p ∈ ds, glyphLookup s.cfg p.1 = some p.2) →
    ∃ t, execAll (.mclr :: ds.map (fun p => .madd p.1)) s = some t ∧
      t.measW.toNat = (ds.map (fun p => p.2.w.toNat)).sum % 65536 ∧
      t.measH.toNat = (ds.map (fun p => p.2.h.toNat)).foldl max 0 ∧
      t = { s with measW := t.measW, measH := t.measH, gfound := if ds = [] then s.gfound else true }

/-! ### Scan-out -/

/-- R184: BEGIN completes from Idle: Streaming, with PTR, COL and NB 0, and nothing else changed; while
Streaming it faults with PHASE. -/
def Obligations.BeginStartsAPass : Prop :=
  EncodedAsN 0x30#8 .begin ∧
  ∀ s : State, s.fault = false →
    (s.st = .idle →
      exec .begin s = .next { s with st := .streaming, ptr := 0#24, col := 0#16, nb := 0#16 }) ∧
    (s.st = .streaming → exec .begin s = .next (s.faulted 0x02#8 0x30000000#32))

/-- BATCH completes while Streaming, in a state whose cursor stands where NB batches put it (StepKeepsInvariant):
the batch buffer holds the next CHUNK_BYTES bytes of the frame in raster order, high byte first; BATCH_VALID
is set, NB is one more, the cursor stands after those pixels, ST is Idle exactly after the last batch;
nothing else changes (R185 to R189). -/
def Obligations.BatchEncodesTheNextPixels : Prop :=
  ∀ s : State, s.Inv → s.fault = false → s.st = .streaming →
    let q := (s.nb.toNat + 1) * s.cfg.batchPixels
    ∃ m, exec .batch s = .next { s with
        batch := m
        batchValid := true
        nb := BitVec.ofNat 16 (s.nb.toNat + 1)
        st := if s.nb.toNat + 1 = s.cfg.nbFrame then .idle else .streaming
        ptr := BitVec.ofNat 24 (cursorPtr s.cfg q)
        col := BitVec.ofNat 16 (q % s.cfg.nw) } ∧
      (∀ i < s.cfg.chunkBytes, m.read i = some (frameByte s (s.nb.toNat * s.cfg.chunkBytes + i))) ∧
      ∀ i, s.cfg.chunkBytes ≤ i → m.read i = s.batch.read i

/-- Every read of a pass lies inside the surface, the byte below it at SS = 2 too: before each step of
the loop of a batch (which reads at PTR, and at SS = 2 at PTR + S) the cursor is inside, for BATCH from a
state that meets the invariant and for each batch of FRAME, which starts at the cursor of its batch number.
After the last batch the cursor has reached the end, "the surface [is exhausted] exactly" (43_scanout,
R190). -/
def Obligations.CursorStaysInside : Prop :=
  (∀ s : State, s.cfg.wf = true → s.nb.toNat < s.cfg.nbFrame →
    s.ptr.toNat = cursorPtr s.cfg s.pixelsDone → s.col.toNat = s.pixelsDone % s.cfg.nw →
    ∀ k < batchSteps s.cfg, (encodeSteps s k).ptr.toNat < s.cfg.surfBytes ∧
      (s.cfg.ss = 2 → (encodeSteps s k).ptr.toNat + s.cfg.stride < s.cfg.surfBytes)) ∧
  ∀ s : State, s.Inv →
    (s.st = .streaming → ∀ k < batchSteps s.cfg, (encodeSteps s k).ptr.toNat < s.cfg.surfBytes ∧
      (s.cfg.ss = 2 → (encodeSteps s k).ptr.toNat + s.cfg.stride < s.cfg.surfBytes)) ∧
    (∀ q < s.cfg.nw * s.cfg.nh, cursorPtr s.cfg q < s.cfg.surfBytes ∧
      (s.cfg.ss = 2 → cursorPtr s.cfg q + s.cfg.stride < s.cfg.surfBytes)) ∧
    (s.st = .streaming → s.pixelsDone + s.cfg.batchPixels ≤ s.cfg.nw * s.cfg.nh ∧
      s.ptr.toNat < s.cfg.surfBytes) ∧
    (s.nb.toNat = s.cfg.nbFrame → s.ptr.toNat = s.cfg.surfBytes ∧ s.col = 0#16)

/-- "no compositing operation may run while a render pass is Streaming": whatever a step does, short of a
reset, a surface that is Streaming before it is unchanged by it (20_memory, R64). -/
def Obligations.SurfaceFixedWhileStreaming : Prop :=
  ∀ s t : State, s.st = .streaming → s.resetAsserted = false → step s = .next t →
    t.surf = s.surf ∧ ∀ i, t.surfByte i = s.surfByte i

/-- R182: only BEGIN and FRAME start a pass, FRAME also when it goes on after a silence; short of a reset a pass ends only when its NB_FRAME-th batch
is produced; while Streaming the surface-writing commands and BEGIN, ADDR and FRAME fault. -/
def Obligations.PassesBeginAndEndByTheRules : Prop :=
  (∀ (i : Instr) (s t : State), exec i s = .next t → s.st = .idle → t.st = .streaming →
    i = .begin ∨ i = .frame) ∧
  (∀ s t : State, step s = .next t → s.st = .idle → t.st = .streaming →
    (∃ failed, s.hold = some .frameColumn ∨ s.hold = some (.frameRow failed)) ∨
    ∃ w rest, s.AboutToAccess (cmdWrite s.cfg w) rest ∧
      (decode w = .ok .begin ∨ decode w = .ok .frame)) ∧
  (∀ s t : State, s.st = .streaming → s.resetAsserted = false → step s = .next t → t.st = .idle →
    t.nb.toNat = t.cfg.nbFrame) ∧
  (∀ (i : Instr) (s : State), s.fault = false → s.st = .streaming → needsIdle i = true →
    exec i s = .next (s.faulted 0x02#8 (encode i)))

/-! ### Transfers -/

/-- R192: SEND of a batch that was never produced faults with BATCH_EMPTY; otherwise, the display port
answering, it completes: the batch buffer's CHUNK_BYTES bytes join the display log with the answer,
XFER_FAIL is set exactly on `fail`, and nothing else changes, in both scan-out states; while the port is
silent SEND holds. Its word is 0x32000000. -/
def Obligations.SendForwardsTheBatch : Prop :=
  EncodedAsN 0x32#8 .send ∧
  ∀ s : State, s.fault = false →
    (s.batchValid = false → exec .send s = .next (s.faulted 0x07#8 0x32000000#32)) ∧
    (∀ a rest, s.batchValid = true → s.hold = none → s.port = some a :: rest →
      exec .send s = .next { s with
        port := rest
        displayLog :=
          s.displayLog ++ [(.data ((List.range s.cfg.chunkBytes).map s.batchByte), a)]
        xferFail := decide (a = .fail) }) ∧
    (s.batchValid = true → (s.port = [] ∨ ∃ rest, s.port = none :: rest) →
      exec .send s = .next { s with hold := some .send, port := s.port.tail })

/-- R193: ADDR completes from Idle, the display port answering: the column range and then the row range
join the display log, the row range also after a failed column range; XFER_FAIL says whether either
failed; nothing else changes; while Streaming it faults with PHASE. -/
def Obligations.AddrSendsTheHandshake : Prop :=
  EncodedAsN 0x33#8 .addr ∧
  ∀ s : State, s.fault = false →
    (∀ r1 r2 rest, s.st = .idle → s.hold = none → s.port = some r1 :: some r2 :: rest →
      exec .addr s = .next { s with
        port := rest
        displayLog := s.displayLog ++
          [(.setColumnRange 0 (s.cfg.nw - 1), r1), (.setRowRange 0 (s.cfg.nh - 1), r2)]
        xferFail := decide (r1 = .fail) || decide (r2 = .fail) }) ∧
    (s.st = .streaming → exec .addr s = .next (s.faulted 0x02#8 0x33000000#32))

/-- FRAME completes from Idle, the display port answering each of its 2 + NB_FRAME events: the display
log gains the two ranges and then the whole frame in raster order, one chunk an event, each with its
answer, whichever answers failed; XFER_FAIL is their OR; the pass is complete (Idle, NB = NB_FRAME,
PTR = SURF_BYTES, COL = 0), the batch buffer holds the last chunk, and nothing else changes (R189, R194). -/
def Obligations.FrameTransfersTheRaster : Prop :=
  ∀ (s : State) (answers : List Answer) (rest : List (Option Answer)),
    s.cfg.wf = true → s.Composing → s.hold = none →
    answers.length = s.cfg.nbFrame + 2 → s.port = answers.map some ++ rest →
    ∃ m, exec .frame s = .next { s with
        batch := m
        batchValid := true
        nb := BitVec.ofNat 16 s.cfg.nbFrame
        ptr := BitVec.ofNat 24 s.cfg.surfBytes
        col := 0#16
        port := rest
        displayLog := s.displayLog ++
          ([DisplayEvent.setColumnRange 0 (s.cfg.nw - 1), DisplayEvent.setRowRange 0 (s.cfg.nh - 1)] ++
            (List.range s.cfg.nbFrame).map (fun k => DisplayEvent.data (frameChunk s k))).zip answers
        xferFail := decide (.fail ∈ answers) } ∧
      (∀ i < s.cfg.chunkBytes,
        m.read i = some (frameByte s ((s.cfg.nbFrame - 1) * s.cfg.chunkBytes + i))) ∧
      ∀ i, s.cfg.chunkBytes ≤ i → m.read i = s.batch.read i

/-- FRAME and the sequence ADDR; BEGIN; (BATCH; SEND) NB_FRAME times leave the same display log and the
same state except XFER_FAIL (43_scanout, R195). -/
def Obligations.FrameEqualsItsCommandSequence : Prop :=
  ∀ (s : State) (answers : List Answer) (rest : List (Option Answer)),
    s.cfg.wf = true → s.Composing → s.hold = none →
    answers.length = s.cfg.nbFrame + 2 → s.port = answers.map some ++ rest →
    ∃ t u, exec .frame s = .next t ∧
      execAll ([.addr, .begin] ++ (List.replicate s.cfg.nbFrame [.batch, .send]).flatten) s = some u ∧
      u = { t with xferFail := u.xferFail } ∧
      u.xferFail = decide (answers.getLast? = some .fail)

/-- While the display port is silent, SEND, ADDR and FRAME hold at their first event, and a command in
progress holds where it is: a step changes nothing but the inputs it used up, and the host's next access
is not performed (R62, R181, R268; how silence stands in State is log 3). -/
def Obligations.SilentPortHoldsTheBlock : Prop :=
  ∀ s : State, (s.port = [] ∨ ∃ rest, s.port = none :: rest) →
    (∀ p ∈ [(Instr.send, Hold.send), (Instr.addr, Hold.addrColumn), (Instr.frame, Hold.frameColumn)],
      s.fault = false → firstFault s p.1 = none →
      exec p.1 s = .next { s with hold := some p.2, port := s.port.tail }) ∧
    ∀ h : Hold, s.hold = some h → s.resetAsserted = false →
      step s = .next { s with port := s.port.tail, resetPin := s.resetPin.tail }

/-- "The display port may answer at any later step": silence only delays. A command that holds after some
answers and a step of silence, and is then resumed with further answers, ends as if the port had
answered without the silence (R181, log 3). -/
def Obligations.SilenceOnlyDelays : Prop :=
  ∀ (s : State) (before : List Answer) (after : List (Option Answer)),
    (pump (before.map some) s).hold ≠ none →
    pump after (pump (before.map some ++ none :: after) s) = pump (before.map some ++ after) s

/-- "Every offered event, with its answer, is appended to the display log": no step takes an entry back or
changes one, a reset included (R181, log 12). -/
def Obligations.DisplayLogOnlyGrows : Prop :=
  ∀ s t : State, step s = .next t → ∃ more, t.displayLog = s.displayLog ++ more
end

