-- ==== Sys2Proof/Laws/Encoding.lean ====
section
/-! SUPPORT. The fields of an encoded command, and what a decoded word says of its fields. -/

namespace Sys2Proof

@[simp] theorem opcField_encode (i : Instr) : opcField (encode i) = opcode i := by
  simp only [opcField, encode]
  generalize opcode i = o
  generalize immediate i = m
  ext k hk
  simp only [BitVec.getElem_extractLsb', BitVec.getLsbD_append]
  have h1 : ¬ (24 + k < 16) := by omega
  have h2 : ¬ (24 + k - 16 < 8) := by omega
  have h3 : 24 + k - 16 - 8 = k := by omega
  simp [h1, h2, h3, BitVec.getLsbD_eq_getElem hk]

@[simp] theorem rsvField_encode (i : Instr) : rsvField (encode i) = 0#8 := by
  simp only [rsvField, encode]
  generalize opcode i = o
  generalize immediate i = m
  ext k hk
  simp only [BitVec.getElem_extractLsb', BitVec.getLsbD_append]
  have h1 : ¬ (16 + k < 16) := by omega
  have h2 : ¬ (8 ≤ k) := by omega
  simp [h2]

@[simp] theorem immField_encode (i : Instr) : immField (encode i) = immediate i := by
  simp only [immField, encode]
  generalize opcode i = o
  generalize immediate i = m
  ext k hk
  simp only [BitVec.getElem_extractLsb', BitVec.getLsbD_append]
  simp [hk]

/-- A word is its three fields (R81). -/
theorem word_fields (w : Word) : opcField w ++ rsvField w ++ immField w = w := by
  ext k hk
  simp only [opcField, rsvField, immField, BitVec.getElem_append, BitVec.getElem_extractLsb']
  rw [← BitVec.getLsbD_eq_getElem]
  split
  · simp
  · split
    · congr 1; omega
    · congr 1; omega

/-- Everything a decoded word says: its format's fields are as R82 requires. -/
theorem decode_ok_cases {w : Word} {i : Instr} (h : decode w = .ok i) :
    (formatN (opcField w) = some i ∧ rsvField w = 0#8 ∧ immField w = 0#16) ∨
    (formatI (opcField w) (immField w) = some i ∧ rsvField w = 0#8) := by
  simp only [decode] at h
  split at h
  · rename_i j hj
    split at h
    · rename_i hz
      cases h
      exact .inl ⟨hj, hz⟩
    · cases h
  · split at h
    · rename_i j hj
      split at h
      · rename_i hz
        cases h
        exact .inr ⟨hj, hz⟩
      · cases h
    · cases h

end Sys2Proof
end

