-- ==== Sys2Proof/Laws/Memory.lean ====
section
/-! SUPPORT. Byte memories: a read after a write, the canonical form, and that equal reads of canonical
memories are equal memories. -/

namespace Sys2Proof.Machine

open Sys2Proof

@[simp] theorem Memory.read_nil (a : Nat) : Memory.read [] a = none := rfl

theorem Memory.read_cons (k a : Nat) (b : Byte) (m : Memory) :
    Memory.read ((k, b) :: m) a = if a = k then some b else Memory.read m a := rfl

@[simp] theorem Memory.read_write_same (m : Memory) (a : Nat) (b : Byte) :
    (m.write a b).read a = some b := by
  induction m with
  | nil => simp [Memory.write, Memory.read_cons]
  | cons c m ih =>
    obtain ⟨k, v⟩ := c
    simp only [Memory.write]
    split
    · simp [Memory.read_cons]
    · split
      · simp [Memory.read_cons]
      · rename_i _ h
        simp [Memory.read_cons, h, ih]

theorem Memory.read_write_other (m : Memory) {a i : Nat} (b : Byte) (h : i ≠ a) :
    (m.write a b).read i = m.read i := by
  induction m with
  | nil => simp [Memory.write, Memory.read_cons, h]
  | cons c m ih =>
    obtain ⟨k, v⟩ := c
    simp only [Memory.write]
    split
    · simp [Memory.read_cons, h]
    · split
      · rename_i _ hk
        subst hk
        simp [Memory.read_cons, h]
      · simp [Memory.read_cons, ih]

theorem Memory.read_write (m : Memory) (a i : Nat) (b : Byte) :
    (m.write a b).read i = if i = a then some b else m.read i := by
  by_cases h : i = a
  · subst h; simp
  · simp [h, Memory.read_write_other]

/-- The addresses a write lists are the old ones and the one written. -/
theorem Memory.mem_write {m : Memory} {a : Nat} {b : Byte} {c : Host.Cell} (h : c ∈ m.write a b) :
    c = (a, b) ∨ c ∈ m := by
  induction m with
  | nil => simpa [Memory.write] using h
  | cons d m ih =>
    obtain ⟨k, v⟩ := d
    simp only [Memory.write] at h
    split at h
    · simpa using h
    · split at h
      · simp only [List.mem_cons] at h ⊢
        tauto
      · simp only [List.mem_cons] at h ⊢
        rcases h with h | h
        · exact .inr (.inl h)
        · rcases ih h with h | h <;> tauto

theorem Memory.wf_nil : Memory.wf [] := ⟨List.Pairwise.nil, by simp⟩

theorem Memory.wf_of_rising {m : Memory} (h : m.Pairwise (fun p q => p.1 < q.1)) : m.wf :=
  ⟨h, fun _ _ => by simp [Memory.unlisted]⟩

/-- A write keeps the canonical form. -/
theorem Memory.wf_write {m : Memory} (h : m.wf) (a : Nat) (b : Byte) : (m.write a b).wf := by
  apply Memory.wf_of_rising
  obtain ⟨h, -⟩ := h
  induction m with
  | nil => simp [Memory.write]
  | cons c m ih =>
    obtain ⟨k, v⟩ := c
    rw [List.pairwise_cons] at h
    simp only [Memory.write]
    split
    · rename_i hlt
      refine List.pairwise_cons.2 ⟨?_, List.pairwise_cons.2 h⟩
      intro d hd
      rcases List.mem_cons.1 hd with rfl | hd
      · exact hlt
      · exact lt_trans hlt (h.1 d hd)
    · split
      · rename_i _ he
        subst he
        exact List.pairwise_cons.2 h
      · rename_i hlt hne
        refine List.pairwise_cons.2 ⟨?_, ih h.2⟩
        intro d hd
        rcases Memory.mem_write hd with rfl | hd
        · simp only; omega
        · exact h.1 d hd

/-- A byte a memory lists is read at its address. -/
theorem Memory.read_eq_some_iff {m : Memory} (h : m.wf) (a : Nat) (b : Byte) :
    m.read a = some b ↔ (a, b) ∈ m := by
  obtain ⟨h, -⟩ := h
  induction m with
  | nil => simp
  | cons c m ih =>
    obtain ⟨k, v⟩ := c
    rw [List.pairwise_cons] at h
    rw [Memory.read_cons, List.mem_cons]
    split
    · rename_i he
      subst he
      constructor
      · intro hv
        exact .inl (by simpa using hv.symm)
      · rintro (hv | hv)
        · simp only [Prod.mk.injEq] at hv
          simp [hv.2]
        · exact absurd (h.1 _ hv) (by simp)
    · rename_i hne
      rw [ih h.2]
      simp [hne]

/-- Canonical memories that read alike are equal. -/
theorem Memory.ext_of_wf {m n : Memory} (hm : m.wf) (hn : n.wf) (h : ∀ a, m.read a = n.read a) : m = n := by
  have hmem : ∀ c, c ∈ m ↔ c ∈ n := fun ⟨a, b⟩ => by
    rw [← Memory.read_eq_some_iff hm, ← Memory.read_eq_some_iff hn, h]
  have rising : ∀ {l : Memory}, l.wf → l.Pairwise (fun p q => p.1 < q.1) := fun h => h.1
  have nodup : ∀ {l : Memory}, l.wf → l.Nodup := fun h =>
    List.Pairwise.imp (fun hlt he => absurd hlt (by simp [he])) (rising h)
  have hperm : m.Perm n := (List.perm_ext_iff_of_nodup (nodup hm) (nodup hn)).2 hmem
  exact hperm.eq_of_pairwise (fun a b _ _ hab hba => absurd (lt_trans hab hba) (lt_irrefl _)) (rising hm)
    (rising hn)

end Sys2Proof.Machine
end

