-- ==== Sys2Proof/Laws/State.lean ====
section
/-! SUPPORT. One lemma a field for each named update of the state, so that no later proof unfolds a
record update. -/

namespace Sys2Proof.Machine

open Sys2Proof

/-! ### State.pokeSurf -/

@[simp] theorem State.pokeSurf_cfg (s : State) (i : Nat) (b : Byte) :
    (s.pokeSurf i b).cfg = s.cfg := rfl
@[simp] theorem State.pokeSurf_surf (s : State) (i : Nat) (b : Byte) :
    (s.pokeSurf i b).surf = s.surf.write i b := rfl
@[simp] theorem State.pokeSurf_batch (s : State) (i : Nat) (b : Byte) :
    (s.pokeSurf i b).batch = s.batch := rfl
@[simp] theorem State.pokeSurf_st (s : State) (i : Nat) (b : Byte) :
    (s.pokeSurf i b).st = s.st := rfl
@[simp] theorem State.pokeSurf_ptr (s : State) (i : Nat) (b : Byte) :
    (s.pokeSurf i b).ptr = s.ptr := rfl
@[simp] theorem State.pokeSurf_col (s : State) (i : Nat) (b : Byte) :
    (s.pokeSurf i b).col = s.col := rfl
@[simp] theorem State.pokeSurf_nb (s : State) (i : Nat) (b : Byte) :
    (s.pokeSurf i b).nb = s.nb := rfl
@[simp] theorem State.pokeSurf_batchValid (s : State) (i : Nat) (b : Byte) :
    (s.pokeSurf i b).batchValid = s.batchValid := rfl
@[simp] theorem State.pokeSurf_resW (s : State) (i : Nat) (b : Byte) :
    (s.pokeSurf i b).resW = s.resW := rfl
@[simp] theorem State.pokeSurf_resH (s : State) (i : Nat) (b : Byte) :
    (s.pokeSurf i b).resH = s.resH := rfl
@[simp] theorem State.pokeSurf_gfound (s : State) (i : Nat) (b : Byte) :
    (s.pokeSurf i b).gfound = s.gfound := rfl
@[simp] theorem State.pokeSurf_measW (s : State) (i : Nat) (b : Byte) :
    (s.pokeSurf i b).measW = s.measW := rfl
@[simp] theorem State.pokeSurf_measH (s : State) (i : Nat) (b : Byte) :
    (s.pokeSurf i b).measH = s.measH := rfl
@[simp] theorem State.pokeSurf_fault (s : State) (i : Nat) (b : Byte) :
    (s.pokeSurf i b).fault = s.fault := rfl
@[simp] theorem State.pokeSurf_faultCode (s : State) (i : Nat) (b : Byte) :
    (s.pokeSurf i b).faultCode = s.faultCode := rfl
@[simp] theorem State.pokeSurf_faultInfo (s : State) (i : Nat) (b : Byte) :
    (s.pokeSurf i b).faultInfo = s.faultInfo := rfl
@[simp] theorem State.pokeSurf_xferFail (s : State) (i : Nat) (b : Byte) :
    (s.pokeSurf i b).xferFail = s.xferFail := rfl
@[simp] theorem State.pokeSurf_argXY (s : State) (i : Nat) (b : Byte) :
    (s.pokeSurf i b).argXY = s.argXY := rfl
@[simp] theorem State.pokeSurf_surfAddr (s : State) (i : Nat) (b : Byte) :
    (s.pokeSurf i b).surfAddr = s.surfAddr := rfl
@[simp] theorem State.pokeSurf_batchAddr (s : State) (i : Nat) (b : Byte) :
    (s.pokeSurf i b).batchAddr = s.batchAddr := rfl
@[simp] theorem State.pokeSurf_hold (s : State) (i : Nat) (b : Byte) :
    (s.pokeSurf i b).hold = s.hold := rfl
@[simp] theorem State.pokeSurf_displayLog (s : State) (i : Nat) (b : Byte) :
    (s.pokeSurf i b).displayLog = s.displayLog := rfl
@[simp] theorem State.pokeSurf_bus (s : State) (i : Nat) (b : Byte) :
    (s.pokeSurf i b).bus = s.bus := rfl
@[simp] theorem State.pokeSurf_port (s : State) (i : Nat) (b : Byte) :
    (s.pokeSurf i b).port = s.port := rfl
@[simp] theorem State.pokeSurf_resetPin (s : State) (i : Nat) (b : Byte) :
    (s.pokeSurf i b).resetPin = s.resetPin := rfl
@[simp] theorem State.pokeSurf_reads (s : State) (i : Nat) (b : Byte) :
    (s.pokeSurf i b).reads = s.reads := rfl
@[simp] theorem State.pokeSurf_resets (s : State) (i : Nat) (b : Byte) :
    (s.pokeSurf i b).resets = s.resets := rfl

/-! ### State.pokeBatch -/

@[simp] theorem State.pokeBatch_cfg (s : State) (i : Nat) (b : Byte) :
    (s.pokeBatch i b).cfg = s.cfg := rfl
@[simp] theorem State.pokeBatch_surf (s : State) (i : Nat) (b : Byte) :
    (s.pokeBatch i b).surf = s.surf := rfl
@[simp] theorem State.pokeBatch_batch (s : State) (i : Nat) (b : Byte) :
    (s.pokeBatch i b).batch = s.batch.write i b := rfl
@[simp] theorem State.pokeBatch_st (s : State) (i : Nat) (b : Byte) :
    (s.pokeBatch i b).st = s.st := rfl
@[simp] theorem State.pokeBatch_ptr (s : State) (i : Nat) (b : Byte) :
    (s.pokeBatch i b).ptr = s.ptr := rfl
@[simp] theorem State.pokeBatch_col (s : State) (i : Nat) (b : Byte) :
    (s.pokeBatch i b).col = s.col := rfl
@[simp] theorem State.pokeBatch_nb (s : State) (i : Nat) (b : Byte) :
    (s.pokeBatch i b).nb = s.nb := rfl
@[simp] theorem State.pokeBatch_batchValid (s : State) (i : Nat) (b : Byte) :
    (s.pokeBatch i b).batchValid = s.batchValid := rfl
@[simp] theorem State.pokeBatch_resW (s : State) (i : Nat) (b : Byte) :
    (s.pokeBatch i b).resW = s.resW := rfl
@[simp] theorem State.pokeBatch_resH (s : State) (i : Nat) (b : Byte) :
    (s.pokeBatch i b).resH = s.resH := rfl
@[simp] theorem State.pokeBatch_gfound (s : State) (i : Nat) (b : Byte) :
    (s.pokeBatch i b).gfound = s.gfound := rfl
@[simp] theorem State.pokeBatch_measW (s : State) (i : Nat) (b : Byte) :
    (s.pokeBatch i b).measW = s.measW := rfl
@[simp] theorem State.pokeBatch_measH (s : State) (i : Nat) (b : Byte) :
    (s.pokeBatch i b).measH = s.measH := rfl
@[simp] theorem State.pokeBatch_fault (s : State) (i : Nat) (b : Byte) :
    (s.pokeBatch i b).fault = s.fault := rfl
@[simp] theorem State.pokeBatch_faultCode (s : State) (i : Nat) (b : Byte) :
    (s.pokeBatch i b).faultCode = s.faultCode := rfl
@[simp] theorem State.pokeBatch_faultInfo (s : State) (i : Nat) (b : Byte) :
    (s.pokeBatch i b).faultInfo = s.faultInfo := rfl
@[simp] theorem State.pokeBatch_xferFail (s : State) (i : Nat) (b : Byte) :
    (s.pokeBatch i b).xferFail = s.xferFail := rfl
@[simp] theorem State.pokeBatch_argXY (s : State) (i : Nat) (b : Byte) :
    (s.pokeBatch i b).argXY = s.argXY := rfl
@[simp] theorem State.pokeBatch_surfAddr (s : State) (i : Nat) (b : Byte) :
    (s.pokeBatch i b).surfAddr = s.surfAddr := rfl
@[simp] theorem State.pokeBatch_batchAddr (s : State) (i : Nat) (b : Byte) :
    (s.pokeBatch i b).batchAddr = s.batchAddr := rfl
@[simp] theorem State.pokeBatch_hold (s : State) (i : Nat) (b : Byte) :
    (s.pokeBatch i b).hold = s.hold := rfl
@[simp] theorem State.pokeBatch_displayLog (s : State) (i : Nat) (b : Byte) :
    (s.pokeBatch i b).displayLog = s.displayLog := rfl
@[simp] theorem State.pokeBatch_bus (s : State) (i : Nat) (b : Byte) :
    (s.pokeBatch i b).bus = s.bus := rfl
@[simp] theorem State.pokeBatch_port (s : State) (i : Nat) (b : Byte) :
    (s.pokeBatch i b).port = s.port := rfl
@[simp] theorem State.pokeBatch_resetPin (s : State) (i : Nat) (b : Byte) :
    (s.pokeBatch i b).resetPin = s.resetPin := rfl
@[simp] theorem State.pokeBatch_reads (s : State) (i : Nat) (b : Byte) :
    (s.pokeBatch i b).reads = s.reads := rfl
@[simp] theorem State.pokeBatch_resets (s : State) (i : Nat) (b : Byte) :
    (s.pokeBatch i b).resets = s.resets := rfl

/-! ### State.setResult -/

@[simp] theorem State.setResult_cfg (s : State) (g : Bool) (w h : BitVec 16) :
    (s.setResult g w h).cfg = s.cfg := rfl
@[simp] theorem State.setResult_surf (s : State) (g : Bool) (w h : BitVec 16) :
    (s.setResult g w h).surf = s.surf := rfl
@[simp] theorem State.setResult_batch (s : State) (g : Bool) (w h : BitVec 16) :
    (s.setResult g w h).batch = s.batch := rfl
@[simp] theorem State.setResult_st (s : State) (g : Bool) (w h : BitVec 16) :
    (s.setResult g w h).st = s.st := rfl
@[simp] theorem State.setResult_ptr (s : State) (g : Bool) (w h : BitVec 16) :
    (s.setResult g w h).ptr = s.ptr := rfl
@[simp] theorem State.setResult_col (s : State) (g : Bool) (w h : BitVec 16) :
    (s.setResult g w h).col = s.col := rfl
@[simp] theorem State.setResult_nb (s : State) (g : Bool) (w h : BitVec 16) :
    (s.setResult g w h).nb = s.nb := rfl
@[simp] theorem State.setResult_batchValid (s : State) (g : Bool) (w h : BitVec 16) :
    (s.setResult g w h).batchValid = s.batchValid := rfl
@[simp] theorem State.setResult_resW (s : State) (g : Bool) (w h : BitVec 16) :
    (s.setResult g w h).resW = w := rfl
@[simp] theorem State.setResult_resH (s : State) (g : Bool) (w h : BitVec 16) :
    (s.setResult g w h).resH = h := rfl
@[simp] theorem State.setResult_gfound (s : State) (g : Bool) (w h : BitVec 16) :
    (s.setResult g w h).gfound = g := rfl
@[simp] theorem State.setResult_measW (s : State) (g : Bool) (w h : BitVec 16) :
    (s.setResult g w h).measW = s.measW := rfl
@[simp] theorem State.setResult_measH (s : State) (g : Bool) (w h : BitVec 16) :
    (s.setResult g w h).measH = s.measH := rfl
@[simp] theorem State.setResult_fault (s : State) (g : Bool) (w h : BitVec 16) :
    (s.setResult g w h).fault = s.fault := rfl
@[simp] theorem State.setResult_faultCode (s : State) (g : Bool) (w h : BitVec 16) :
    (s.setResult g w h).faultCode = s.faultCode := rfl
@[simp] theorem State.setResult_faultInfo (s : State) (g : Bool) (w h : BitVec 16) :
    (s.setResult g w h).faultInfo = s.faultInfo := rfl
@[simp] theorem State.setResult_xferFail (s : State) (g : Bool) (w h : BitVec 16) :
    (s.setResult g w h).xferFail = s.xferFail := rfl
@[simp] theorem State.setResult_argXY (s : State) (g : Bool) (w h : BitVec 16) :
    (s.setResult g w h).argXY = s.argXY := rfl
@[simp] theorem State.setResult_surfAddr (s : State) (g : Bool) (w h : BitVec 16) :
    (s.setResult g w h).surfAddr = s.surfAddr := rfl
@[simp] theorem State.setResult_batchAddr (s : State) (g : Bool) (w h : BitVec 16) :
    (s.setResult g w h).batchAddr = s.batchAddr := rfl
@[simp] theorem State.setResult_hold (s : State) (g : Bool) (w h : BitVec 16) :
    (s.setResult g w h).hold = s.hold := rfl
@[simp] theorem State.setResult_displayLog (s : State) (g : Bool) (w h : BitVec 16) :
    (s.setResult g w h).displayLog = s.displayLog := rfl
@[simp] theorem State.setResult_bus (s : State) (g : Bool) (w h : BitVec 16) :
    (s.setResult g w h).bus = s.bus := rfl
@[simp] theorem State.setResult_port (s : State) (g : Bool) (w h : BitVec 16) :
    (s.setResult g w h).port = s.port := rfl
@[simp] theorem State.setResult_resetPin (s : State) (g : Bool) (w h : BitVec 16) :
    (s.setResult g w h).resetPin = s.resetPin := rfl
@[simp] theorem State.setResult_reads (s : State) (g : Bool) (w h : BitVec 16) :
    (s.setResult g w h).reads = s.reads := rfl
@[simp] theorem State.setResult_resets (s : State) (g : Bool) (w h : BitVec 16) :
    (s.setResult g w h).resets = s.resets := rfl

/-! ### State.setMeas -/

@[simp] theorem State.setMeas_cfg (s : State) (w h : BitVec 16) :
    (s.setMeas w h).cfg = s.cfg := rfl
@[simp] theorem State.setMeas_surf (s : State) (w h : BitVec 16) :
    (s.setMeas w h).surf = s.surf := rfl
@[simp] theorem State.setMeas_batch (s : State) (w h : BitVec 16) :
    (s.setMeas w h).batch = s.batch := rfl
@[simp] theorem State.setMeas_st (s : State) (w h : BitVec 16) :
    (s.setMeas w h).st = s.st := rfl
@[simp] theorem State.setMeas_ptr (s : State) (w h : BitVec 16) :
    (s.setMeas w h).ptr = s.ptr := rfl
@[simp] theorem State.setMeas_col (s : State) (w h : BitVec 16) :
    (s.setMeas w h).col = s.col := rfl
@[simp] theorem State.setMeas_nb (s : State) (w h : BitVec 16) :
    (s.setMeas w h).nb = s.nb := rfl
@[simp] theorem State.setMeas_batchValid (s : State) (w h : BitVec 16) :
    (s.setMeas w h).batchValid = s.batchValid := rfl
@[simp] theorem State.setMeas_resW (s : State) (w h : BitVec 16) :
    (s.setMeas w h).resW = s.resW := rfl
@[simp] theorem State.setMeas_resH (s : State) (w h : BitVec 16) :
    (s.setMeas w h).resH = s.resH := rfl
@[simp] theorem State.setMeas_gfound (s : State) (w h : BitVec 16) :
    (s.setMeas w h).gfound = s.gfound := rfl
@[simp] theorem State.setMeas_measW (s : State) (w h : BitVec 16) :
    (s.setMeas w h).measW = w := rfl
@[simp] theorem State.setMeas_measH (s : State) (w h : BitVec 16) :
    (s.setMeas w h).measH = h := rfl
@[simp] theorem State.setMeas_fault (s : State) (w h : BitVec 16) :
    (s.setMeas w h).fault = s.fault := rfl
@[simp] theorem State.setMeas_faultCode (s : State) (w h : BitVec 16) :
    (s.setMeas w h).faultCode = s.faultCode := rfl
@[simp] theorem State.setMeas_faultInfo (s : State) (w h : BitVec 16) :
    (s.setMeas w h).faultInfo = s.faultInfo := rfl
@[simp] theorem State.setMeas_xferFail (s : State) (w h : BitVec 16) :
    (s.setMeas w h).xferFail = s.xferFail := rfl
@[simp] theorem State.setMeas_argXY (s : State) (w h : BitVec 16) :
    (s.setMeas w h).argXY = s.argXY := rfl
@[simp] theorem State.setMeas_surfAddr (s : State) (w h : BitVec 16) :
    (s.setMeas w h).surfAddr = s.surfAddr := rfl
@[simp] theorem State.setMeas_batchAddr (s : State) (w h : BitVec 16) :
    (s.setMeas w h).batchAddr = s.batchAddr := rfl
@[simp] theorem State.setMeas_hold (s : State) (w h : BitVec 16) :
    (s.setMeas w h).hold = s.hold := rfl
@[simp] theorem State.setMeas_displayLog (s : State) (w h : BitVec 16) :
    (s.setMeas w h).displayLog = s.displayLog := rfl
@[simp] theorem State.setMeas_bus (s : State) (w h : BitVec 16) :
    (s.setMeas w h).bus = s.bus := rfl
@[simp] theorem State.setMeas_port (s : State) (w h : BitVec 16) :
    (s.setMeas w h).port = s.port := rfl
@[simp] theorem State.setMeas_resetPin (s : State) (w h : BitVec 16) :
    (s.setMeas w h).resetPin = s.resetPin := rfl
@[simp] theorem State.setMeas_reads (s : State) (w h : BitVec 16) :
    (s.setMeas w h).reads = s.reads := rfl
@[simp] theorem State.setMeas_resets (s : State) (w h : BitVec 16) :
    (s.setMeas w h).resets = s.resets := rfl

/-! ### State.setFound -/

@[simp] theorem State.setFound_cfg (s : State) (g : Bool) :
    (s.setFound g).cfg = s.cfg := rfl
@[simp] theorem State.setFound_surf (s : State) (g : Bool) :
    (s.setFound g).surf = s.surf := rfl
@[simp] theorem State.setFound_batch (s : State) (g : Bool) :
    (s.setFound g).batch = s.batch := rfl
@[simp] theorem State.setFound_st (s : State) (g : Bool) :
    (s.setFound g).st = s.st := rfl
@[simp] theorem State.setFound_ptr (s : State) (g : Bool) :
    (s.setFound g).ptr = s.ptr := rfl
@[simp] theorem State.setFound_col (s : State) (g : Bool) :
    (s.setFound g).col = s.col := rfl
@[simp] theorem State.setFound_nb (s : State) (g : Bool) :
    (s.setFound g).nb = s.nb := rfl
@[simp] theorem State.setFound_batchValid (s : State) (g : Bool) :
    (s.setFound g).batchValid = s.batchValid := rfl
@[simp] theorem State.setFound_resW (s : State) (g : Bool) :
    (s.setFound g).resW = s.resW := rfl
@[simp] theorem State.setFound_resH (s : State) (g : Bool) :
    (s.setFound g).resH = s.resH := rfl
@[simp] theorem State.setFound_gfound (s : State) (g : Bool) :
    (s.setFound g).gfound = g := rfl
@[simp] theorem State.setFound_measW (s : State) (g : Bool) :
    (s.setFound g).measW = s.measW := rfl
@[simp] theorem State.setFound_measH (s : State) (g : Bool) :
    (s.setFound g).measH = s.measH := rfl
@[simp] theorem State.setFound_fault (s : State) (g : Bool) :
    (s.setFound g).fault = s.fault := rfl
@[simp] theorem State.setFound_faultCode (s : State) (g : Bool) :
    (s.setFound g).faultCode = s.faultCode := rfl
@[simp] theorem State.setFound_faultInfo (s : State) (g : Bool) :
    (s.setFound g).faultInfo = s.faultInfo := rfl
@[simp] theorem State.setFound_xferFail (s : State) (g : Bool) :
    (s.setFound g).xferFail = s.xferFail := rfl
@[simp] theorem State.setFound_argXY (s : State) (g : Bool) :
    (s.setFound g).argXY = s.argXY := rfl
@[simp] theorem State.setFound_surfAddr (s : State) (g : Bool) :
    (s.setFound g).surfAddr = s.surfAddr := rfl
@[simp] theorem State.setFound_batchAddr (s : State) (g : Bool) :
    (s.setFound g).batchAddr = s.batchAddr := rfl
@[simp] theorem State.setFound_hold (s : State) (g : Bool) :
    (s.setFound g).hold = s.hold := rfl
@[simp] theorem State.setFound_displayLog (s : State) (g : Bool) :
    (s.setFound g).displayLog = s.displayLog := rfl
@[simp] theorem State.setFound_bus (s : State) (g : Bool) :
    (s.setFound g).bus = s.bus := rfl
@[simp] theorem State.setFound_port (s : State) (g : Bool) :
    (s.setFound g).port = s.port := rfl
@[simp] theorem State.setFound_resetPin (s : State) (g : Bool) :
    (s.setFound g).resetPin = s.resetPin := rfl
@[simp] theorem State.setFound_reads (s : State) (g : Bool) :
    (s.setFound g).reads = s.reads := rfl
@[simp] theorem State.setFound_resets (s : State) (g : Bool) :
    (s.setFound g).resets = s.resets := rfl

/-! ### State.setCursor -/

@[simp] theorem State.setCursor_cfg (s : State) (p c : Nat) :
    (s.setCursor p c).cfg = s.cfg := rfl
@[simp] theorem State.setCursor_surf (s : State) (p c : Nat) :
    (s.setCursor p c).surf = s.surf := rfl
@[simp] theorem State.setCursor_batch (s : State) (p c : Nat) :
    (s.setCursor p c).batch = s.batch := rfl
@[simp] theorem State.setCursor_st (s : State) (p c : Nat) :
    (s.setCursor p c).st = s.st := rfl
@[simp] theorem State.setCursor_ptr (s : State) (p c : Nat) :
    (s.setCursor p c).ptr = BitVec.ofNat 24 p := rfl
@[simp] theorem State.setCursor_col (s : State) (p c : Nat) :
    (s.setCursor p c).col = BitVec.ofNat 16 c := rfl
@[simp] theorem State.setCursor_nb (s : State) (p c : Nat) :
    (s.setCursor p c).nb = s.nb := rfl
@[simp] theorem State.setCursor_batchValid (s : State) (p c : Nat) :
    (s.setCursor p c).batchValid = s.batchValid := rfl
@[simp] theorem State.setCursor_resW (s : State) (p c : Nat) :
    (s.setCursor p c).resW = s.resW := rfl
@[simp] theorem State.setCursor_resH (s : State) (p c : Nat) :
    (s.setCursor p c).resH = s.resH := rfl
@[simp] theorem State.setCursor_gfound (s : State) (p c : Nat) :
    (s.setCursor p c).gfound = s.gfound := rfl
@[simp] theorem State.setCursor_measW (s : State) (p c : Nat) :
    (s.setCursor p c).measW = s.measW := rfl
@[simp] theorem State.setCursor_measH (s : State) (p c : Nat) :
    (s.setCursor p c).measH = s.measH := rfl
@[simp] theorem State.setCursor_fault (s : State) (p c : Nat) :
    (s.setCursor p c).fault = s.fault := rfl
@[simp] theorem State.setCursor_faultCode (s : State) (p c : Nat) :
    (s.setCursor p c).faultCode = s.faultCode := rfl
@[simp] theorem State.setCursor_faultInfo (s : State) (p c : Nat) :
    (s.setCursor p c).faultInfo = s.faultInfo := rfl
@[simp] theorem State.setCursor_xferFail (s : State) (p c : Nat) :
    (s.setCursor p c).xferFail = s.xferFail := rfl
@[simp] theorem State.setCursor_argXY (s : State) (p c : Nat) :
    (s.setCursor p c).argXY = s.argXY := rfl
@[simp] theorem State.setCursor_surfAddr (s : State) (p c : Nat) :
    (s.setCursor p c).surfAddr = s.surfAddr := rfl
@[simp] theorem State.setCursor_batchAddr (s : State) (p c : Nat) :
    (s.setCursor p c).batchAddr = s.batchAddr := rfl
@[simp] theorem State.setCursor_hold (s : State) (p c : Nat) :
    (s.setCursor p c).hold = s.hold := rfl
@[simp] theorem State.setCursor_displayLog (s : State) (p c : Nat) :
    (s.setCursor p c).displayLog = s.displayLog := rfl
@[simp] theorem State.setCursor_bus (s : State) (p c : Nat) :
    (s.setCursor p c).bus = s.bus := rfl
@[simp] theorem State.setCursor_port (s : State) (p c : Nat) :
    (s.setCursor p c).port = s.port := rfl
@[simp] theorem State.setCursor_resetPin (s : State) (p c : Nat) :
    (s.setCursor p c).resetPin = s.resetPin := rfl
@[simp] theorem State.setCursor_reads (s : State) (p c : Nat) :
    (s.setCursor p c).reads = s.reads := rfl
@[simp] theorem State.setCursor_resets (s : State) (p c : Nat) :
    (s.setCursor p c).resets = s.resets := rfl

/-! ### beginPass -/

@[simp] theorem beginPass_cfg (s : State) :
    (beginPass s).cfg = s.cfg := rfl
@[simp] theorem beginPass_surf (s : State) :
    (beginPass s).surf = s.surf := rfl
@[simp] theorem beginPass_batch (s : State) :
    (beginPass s).batch = s.batch := rfl
@[simp] theorem beginPass_st (s : State) :
    (beginPass s).st = .streaming := rfl
@[simp] theorem beginPass_ptr (s : State) :
    (beginPass s).ptr = 0#24 := rfl
@[simp] theorem beginPass_col (s : State) :
    (beginPass s).col = 0#16 := rfl
@[simp] theorem beginPass_nb (s : State) :
    (beginPass s).nb = 0#16 := rfl
@[simp] theorem beginPass_batchValid (s : State) :
    (beginPass s).batchValid = s.batchValid := rfl
@[simp] theorem beginPass_resW (s : State) :
    (beginPass s).resW = s.resW := rfl
@[simp] theorem beginPass_resH (s : State) :
    (beginPass s).resH = s.resH := rfl
@[simp] theorem beginPass_gfound (s : State) :
    (beginPass s).gfound = s.gfound := rfl
@[simp] theorem beginPass_measW (s : State) :
    (beginPass s).measW = s.measW := rfl
@[simp] theorem beginPass_measH (s : State) :
    (beginPass s).measH = s.measH := rfl
@[simp] theorem beginPass_fault (s : State) :
    (beginPass s).fault = s.fault := rfl
@[simp] theorem beginPass_faultCode (s : State) :
    (beginPass s).faultCode = s.faultCode := rfl
@[simp] theorem beginPass_faultInfo (s : State) :
    (beginPass s).faultInfo = s.faultInfo := rfl
@[simp] theorem beginPass_xferFail (s : State) :
    (beginPass s).xferFail = s.xferFail := rfl
@[simp] theorem beginPass_argXY (s : State) :
    (beginPass s).argXY = s.argXY := rfl
@[simp] theorem beginPass_surfAddr (s : State) :
    (beginPass s).surfAddr = s.surfAddr := rfl
@[simp] theorem beginPass_batchAddr (s : State) :
    (beginPass s).batchAddr = s.batchAddr := rfl
@[simp] theorem beginPass_hold (s : State) :
    (beginPass s).hold = s.hold := rfl
@[simp] theorem beginPass_displayLog (s : State) :
    (beginPass s).displayLog = s.displayLog := rfl
@[simp] theorem beginPass_bus (s : State) :
    (beginPass s).bus = s.bus := rfl
@[simp] theorem beginPass_port (s : State) :
    (beginPass s).port = s.port := rfl
@[simp] theorem beginPass_resetPin (s : State) :
    (beginPass s).resetPin = s.resetPin := rfl
@[simp] theorem beginPass_reads (s : State) :
    (beginPass s).reads = s.reads := rfl
@[simp] theorem beginPass_resets (s : State) :
    (beginPass s).resets = s.resets := rfl

/-! ### closeBatch -/

@[simp] theorem closeBatch_cfg (s : State) :
    (closeBatch s).cfg = s.cfg := rfl
@[simp] theorem closeBatch_surf (s : State) :
    (closeBatch s).surf = s.surf := rfl
@[simp] theorem closeBatch_batch (s : State) :
    (closeBatch s).batch = s.batch := rfl
@[simp] theorem closeBatch_st (s : State) :
    (closeBatch s).st = if (s.nb + 1#16).toNat = s.cfg.nbFrame then .idle else s.st := rfl
@[simp] theorem closeBatch_ptr (s : State) :
    (closeBatch s).ptr = s.ptr := rfl
@[simp] theorem closeBatch_col (s : State) :
    (closeBatch s).col = s.col := rfl
@[simp] theorem closeBatch_nb (s : State) :
    (closeBatch s).nb = s.nb + 1#16 := rfl
@[simp] theorem closeBatch_batchValid (s : State) :
    (closeBatch s).batchValid = true := rfl
@[simp] theorem closeBatch_resW (s : State) :
    (closeBatch s).resW = s.resW := rfl
@[simp] theorem closeBatch_resH (s : State) :
    (closeBatch s).resH = s.resH := rfl
@[simp] theorem closeBatch_gfound (s : State) :
    (closeBatch s).gfound = s.gfound := rfl
@[simp] theorem closeBatch_measW (s : State) :
    (closeBatch s).measW = s.measW := rfl
@[simp] theorem closeBatch_measH (s : State) :
    (closeBatch s).measH = s.measH := rfl
@[simp] theorem closeBatch_fault (s : State) :
    (closeBatch s).fault = s.fault := rfl
@[simp] theorem closeBatch_faultCode (s : State) :
    (closeBatch s).faultCode = s.faultCode := rfl
@[simp] theorem closeBatch_faultInfo (s : State) :
    (closeBatch s).faultInfo = s.faultInfo := rfl
@[simp] theorem closeBatch_xferFail (s : State) :
    (closeBatch s).xferFail = s.xferFail := rfl
@[simp] theorem closeBatch_argXY (s : State) :
    (closeBatch s).argXY = s.argXY := rfl
@[simp] theorem closeBatch_surfAddr (s : State) :
    (closeBatch s).surfAddr = s.surfAddr := rfl
@[simp] theorem closeBatch_batchAddr (s : State) :
    (closeBatch s).batchAddr = s.batchAddr := rfl
@[simp] theorem closeBatch_hold (s : State) :
    (closeBatch s).hold = s.hold := rfl
@[simp] theorem closeBatch_displayLog (s : State) :
    (closeBatch s).displayLog = s.displayLog := rfl
@[simp] theorem closeBatch_bus (s : State) :
    (closeBatch s).bus = s.bus := rfl
@[simp] theorem closeBatch_port (s : State) :
    (closeBatch s).port = s.port := rfl
@[simp] theorem closeBatch_resetPin (s : State) :
    (closeBatch s).resetPin = s.resetPin := rfl
@[simp] theorem closeBatch_reads (s : State) :
    (closeBatch s).reads = s.reads := rfl
@[simp] theorem closeBatch_resets (s : State) :
    (closeBatch s).resets = s.resets := rfl

/-! ### State.endTransfer -/

@[simp] theorem State.endTransfer_cfg (s : State) (f : Bool) :
    (s.endTransfer f).cfg = s.cfg := rfl
@[simp] theorem State.endTransfer_surf (s : State) (f : Bool) :
    (s.endTransfer f).surf = s.surf := rfl
@[simp] theorem State.endTransfer_batch (s : State) (f : Bool) :
    (s.endTransfer f).batch = s.batch := rfl
@[simp] theorem State.endTransfer_st (s : State) (f : Bool) :
    (s.endTransfer f).st = s.st := rfl
@[simp] theorem State.endTransfer_ptr (s : State) (f : Bool) :
    (s.endTransfer f).ptr = s.ptr := rfl
@[simp] theorem State.endTransfer_col (s : State) (f : Bool) :
    (s.endTransfer f).col = s.col := rfl
@[simp] theorem State.endTransfer_nb (s : State) (f : Bool) :
    (s.endTransfer f).nb = s.nb := rfl
@[simp] theorem State.endTransfer_batchValid (s : State) (f : Bool) :
    (s.endTransfer f).batchValid = s.batchValid := rfl
@[simp] theorem State.endTransfer_resW (s : State) (f : Bool) :
    (s.endTransfer f).resW = s.resW := rfl
@[simp] theorem State.endTransfer_resH (s : State) (f : Bool) :
    (s.endTransfer f).resH = s.resH := rfl
@[simp] theorem State.endTransfer_gfound (s : State) (f : Bool) :
    (s.endTransfer f).gfound = s.gfound := rfl
@[simp] theorem State.endTransfer_measW (s : State) (f : Bool) :
    (s.endTransfer f).measW = s.measW := rfl
@[simp] theorem State.endTransfer_measH (s : State) (f : Bool) :
    (s.endTransfer f).measH = s.measH := rfl
@[simp] theorem State.endTransfer_fault (s : State) (f : Bool) :
    (s.endTransfer f).fault = s.fault := rfl
@[simp] theorem State.endTransfer_faultCode (s : State) (f : Bool) :
    (s.endTransfer f).faultCode = s.faultCode := rfl
@[simp] theorem State.endTransfer_faultInfo (s : State) (f : Bool) :
    (s.endTransfer f).faultInfo = s.faultInfo := rfl
@[simp] theorem State.endTransfer_xferFail (s : State) (f : Bool) :
    (s.endTransfer f).xferFail = f := rfl
@[simp] theorem State.endTransfer_argXY (s : State) (f : Bool) :
    (s.endTransfer f).argXY = s.argXY := rfl
@[simp] theorem State.endTransfer_surfAddr (s : State) (f : Bool) :
    (s.endTransfer f).surfAddr = s.surfAddr := rfl
@[simp] theorem State.endTransfer_batchAddr (s : State) (f : Bool) :
    (s.endTransfer f).batchAddr = s.batchAddr := rfl
@[simp] theorem State.endTransfer_hold (s : State) (f : Bool) :
    (s.endTransfer f).hold = none := rfl
@[simp] theorem State.endTransfer_displayLog (s : State) (f : Bool) :
    (s.endTransfer f).displayLog = s.displayLog := rfl
@[simp] theorem State.endTransfer_bus (s : State) (f : Bool) :
    (s.endTransfer f).bus = s.bus := rfl
@[simp] theorem State.endTransfer_port (s : State) (f : Bool) :
    (s.endTransfer f).port = s.port := rfl
@[simp] theorem State.endTransfer_resetPin (s : State) (f : Bool) :
    (s.endTransfer f).resetPin = s.resetPin := rfl
@[simp] theorem State.endTransfer_reads (s : State) (f : Bool) :
    (s.endTransfer f).reads = s.reads := rfl
@[simp] theorem State.endTransfer_resets (s : State) (f : Bool) :
    (s.endTransfer f).resets = s.resets := rfl

/-! ### State.reply -/

@[simp] theorem State.reply_cfg (s : State) (v : Word) :
    (s.reply v).cfg = s.cfg := rfl
@[simp] theorem State.reply_surf (s : State) (v : Word) :
    (s.reply v).surf = s.surf := rfl
@[simp] theorem State.reply_batch (s : State) (v : Word) :
    (s.reply v).batch = s.batch := rfl
@[simp] theorem State.reply_st (s : State) (v : Word) :
    (s.reply v).st = s.st := rfl
@[simp] theorem State.reply_ptr (s : State) (v : Word) :
    (s.reply v).ptr = s.ptr := rfl
@[simp] theorem State.reply_col (s : State) (v : Word) :
    (s.reply v).col = s.col := rfl
@[simp] theorem State.reply_nb (s : State) (v : Word) :
    (s.reply v).nb = s.nb := rfl
@[simp] theorem State.reply_batchValid (s : State) (v : Word) :
    (s.reply v).batchValid = s.batchValid := rfl
@[simp] theorem State.reply_resW (s : State) (v : Word) :
    (s.reply v).resW = s.resW := rfl
@[simp] theorem State.reply_resH (s : State) (v : Word) :
    (s.reply v).resH = s.resH := rfl
@[simp] theorem State.reply_gfound (s : State) (v : Word) :
    (s.reply v).gfound = s.gfound := rfl
@[simp] theorem State.reply_measW (s : State) (v : Word) :
    (s.reply v).measW = s.measW := rfl
@[simp] theorem State.reply_measH (s : State) (v : Word) :
    (s.reply v).measH = s.measH := rfl
@[simp] theorem State.reply_fault (s : State) (v : Word) :
    (s.reply v).fault = s.fault := rfl
@[simp] theorem State.reply_faultCode (s : State) (v : Word) :
    (s.reply v).faultCode = s.faultCode := rfl
@[simp] theorem State.reply_faultInfo (s : State) (v : Word) :
    (s.reply v).faultInfo = s.faultInfo := rfl
@[simp] theorem State.reply_xferFail (s : State) (v : Word) :
    (s.reply v).xferFail = s.xferFail := rfl
@[simp] theorem State.reply_argXY (s : State) (v : Word) :
    (s.reply v).argXY = s.argXY := rfl
@[simp] theorem State.reply_surfAddr (s : State) (v : Word) :
    (s.reply v).surfAddr = s.surfAddr := rfl
@[simp] theorem State.reply_batchAddr (s : State) (v : Word) :
    (s.reply v).batchAddr = s.batchAddr := rfl
@[simp] theorem State.reply_hold (s : State) (v : Word) :
    (s.reply v).hold = s.hold := rfl
@[simp] theorem State.reply_displayLog (s : State) (v : Word) :
    (s.reply v).displayLog = s.displayLog := rfl
@[simp] theorem State.reply_bus (s : State) (v : Word) :
    (s.reply v).bus = s.bus := rfl
@[simp] theorem State.reply_port (s : State) (v : Word) :
    (s.reply v).port = s.port := rfl
@[simp] theorem State.reply_resetPin (s : State) (v : Word) :
    (s.reply v).resetPin = s.resetPin := rfl
@[simp] theorem State.reply_reads (s : State) (v : Word) :
    (s.reply v).reads = s.reads ++ [v] := rfl
@[simp] theorem State.reply_resets (s : State) (v : Word) :
    (s.reply v).resets = s.resets := rfl

/-! ### State.samplePin -/

@[simp] theorem State.samplePin_cfg (s : State) :
    (s.samplePin).cfg = s.cfg := rfl
@[simp] theorem State.samplePin_surf (s : State) :
    (s.samplePin).surf = s.surf := rfl
@[simp] theorem State.samplePin_batch (s : State) :
    (s.samplePin).batch = s.batch := rfl
@[simp] theorem State.samplePin_st (s : State) :
    (s.samplePin).st = s.st := rfl
@[simp] theorem State.samplePin_ptr (s : State) :
    (s.samplePin).ptr = s.ptr := rfl
@[simp] theorem State.samplePin_col (s : State) :
    (s.samplePin).col = s.col := rfl
@[simp] theorem State.samplePin_nb (s : State) :
    (s.samplePin).nb = s.nb := rfl
@[simp] theorem State.samplePin_batchValid (s : State) :
    (s.samplePin).batchValid = s.batchValid := rfl
@[simp] theorem State.samplePin_resW (s : State) :
    (s.samplePin).resW = s.resW := rfl
@[simp] theorem State.samplePin_resH (s : State) :
    (s.samplePin).resH = s.resH := rfl
@[simp] theorem State.samplePin_gfound (s : State) :
    (s.samplePin).gfound = s.gfound := rfl
@[simp] theorem State.samplePin_measW (s : State) :
    (s.samplePin).measW = s.measW := rfl
@[simp] theorem State.samplePin_measH (s : State) :
    (s.samplePin).measH = s.measH := rfl
@[simp] theorem State.samplePin_fault (s : State) :
    (s.samplePin).fault = s.fault := rfl
@[simp] theorem State.samplePin_faultCode (s : State) :
    (s.samplePin).faultCode = s.faultCode := rfl
@[simp] theorem State.samplePin_faultInfo (s : State) :
    (s.samplePin).faultInfo = s.faultInfo := rfl
@[simp] theorem State.samplePin_xferFail (s : State) :
    (s.samplePin).xferFail = s.xferFail := rfl
@[simp] theorem State.samplePin_argXY (s : State) :
    (s.samplePin).argXY = s.argXY := rfl
@[simp] theorem State.samplePin_surfAddr (s : State) :
    (s.samplePin).surfAddr = s.surfAddr := rfl
@[simp] theorem State.samplePin_batchAddr (s : State) :
    (s.samplePin).batchAddr = s.batchAddr := rfl
@[simp] theorem State.samplePin_hold (s : State) :
    (s.samplePin).hold = s.hold := rfl
@[simp] theorem State.samplePin_displayLog (s : State) :
    (s.samplePin).displayLog = s.displayLog := rfl
@[simp] theorem State.samplePin_bus (s : State) :
    (s.samplePin).bus = s.bus := rfl
@[simp] theorem State.samplePin_port (s : State) :
    (s.samplePin).port = s.port := rfl
@[simp] theorem State.samplePin_resetPin (s : State) :
    (s.samplePin).resetPin = s.resetPin.tail := rfl
@[simp] theorem State.samplePin_reads (s : State) :
    (s.samplePin).reads = s.reads := rfl
@[simp] theorem State.samplePin_resets (s : State) :
    (s.samplePin).resets = s.resets := rfl

/-! ### State.faulted -/

@[simp] theorem State.faulted_cfg (s : State) (code : BitVec 8) (info : Word) :
    (s.faulted code info).cfg = s.cfg := rfl
@[simp] theorem State.faulted_surf (s : State) (code : BitVec 8) (info : Word) :
    (s.faulted code info).surf = s.surf := rfl
@[simp] theorem State.faulted_batch (s : State) (code : BitVec 8) (info : Word) :
    (s.faulted code info).batch = s.batch := rfl
@[simp] theorem State.faulted_st (s : State) (code : BitVec 8) (info : Word) :
    (s.faulted code info).st = s.st := rfl
@[simp] theorem State.faulted_ptr (s : State) (code : BitVec 8) (info : Word) :
    (s.faulted code info).ptr = s.ptr := rfl
@[simp] theorem State.faulted_col (s : State) (code : BitVec 8) (info : Word) :
    (s.faulted code info).col = s.col := rfl
@[simp] theorem State.faulted_nb (s : State) (code : BitVec 8) (info : Word) :
    (s.faulted code info).nb = s.nb := rfl
@[simp] theorem State.faulted_batchValid (s : State) (code : BitVec 8) (info : Word) :
    (s.faulted code info).batchValid = s.batchValid := rfl
@[simp] theorem State.faulted_resW (s : State) (code : BitVec 8) (info : Word) :
    (s.faulted code info).resW = s.resW := rfl
@[simp] theorem State.faulted_resH (s : State) (code : BitVec 8) (info : Word) :
    (s.faulted code info).resH = s.resH := rfl
@[simp] theorem State.faulted_gfound (s : State) (code : BitVec 8) (info : Word) :
    (s.faulted code info).gfound = s.gfound := rfl
@[simp] theorem State.faulted_measW (s : State) (code : BitVec 8) (info : Word) :
    (s.faulted code info).measW = s.measW := rfl
@[simp] theorem State.faulted_measH (s : State) (code : BitVec 8) (info : Word) :
    (s.faulted code info).measH = s.measH := rfl
@[simp] theorem State.faulted_fault (s : State) (code : BitVec 8) (info : Word) :
    (s.faulted code info).fault = true := rfl
@[simp] theorem State.faulted_faultCode (s : State) (code : BitVec 8) (info : Word) :
    (s.faulted code info).faultCode = code := rfl
@[simp] theorem State.faulted_faultInfo (s : State) (code : BitVec 8) (info : Word) :
    (s.faulted code info).faultInfo = info := rfl
@[simp] theorem State.faulted_xferFail (s : State) (code : BitVec 8) (info : Word) :
    (s.faulted code info).xferFail = s.xferFail := rfl
@[simp] theorem State.faulted_argXY (s : State) (code : BitVec 8) (info : Word) :
    (s.faulted code info).argXY = s.argXY := rfl
@[simp] theorem State.faulted_surfAddr (s : State) (code : BitVec 8) (info : Word) :
    (s.faulted code info).surfAddr = s.surfAddr := rfl
@[simp] theorem State.faulted_batchAddr (s : State) (code : BitVec 8) (info : Word) :
    (s.faulted code info).batchAddr = s.batchAddr := rfl
@[simp] theorem State.faulted_hold (s : State) (code : BitVec 8) (info : Word) :
    (s.faulted code info).hold = s.hold := rfl
@[simp] theorem State.faulted_displayLog (s : State) (code : BitVec 8) (info : Word) :
    (s.faulted code info).displayLog = s.displayLog := rfl
@[simp] theorem State.faulted_bus (s : State) (code : BitVec 8) (info : Word) :
    (s.faulted code info).bus = s.bus := rfl
@[simp] theorem State.faulted_port (s : State) (code : BitVec 8) (info : Word) :
    (s.faulted code info).port = s.port := rfl
@[simp] theorem State.faulted_resetPin (s : State) (code : BitVec 8) (info : Word) :
    (s.faulted code info).resetPin = s.resetPin := rfl
@[simp] theorem State.faulted_reads (s : State) (code : BitVec 8) (info : Word) :
    (s.faulted code info).reads = s.reads := rfl
@[simp] theorem State.faulted_resets (s : State) (code : BitVec 8) (info : Word) :
    (s.faulted code info).resets = s.resets := rfl

/-! ### State.taken -/

@[simp] theorem State.taken_cfg (s : State) (rest : List HostAccess) :
    (s.taken rest).cfg = s.cfg := rfl
@[simp] theorem State.taken_surf (s : State) (rest : List HostAccess) :
    (s.taken rest).surf = s.surf := rfl
@[simp] theorem State.taken_batch (s : State) (rest : List HostAccess) :
    (s.taken rest).batch = s.batch := rfl
@[simp] theorem State.taken_st (s : State) (rest : List HostAccess) :
    (s.taken rest).st = s.st := rfl
@[simp] theorem State.taken_ptr (s : State) (rest : List HostAccess) :
    (s.taken rest).ptr = s.ptr := rfl
@[simp] theorem State.taken_col (s : State) (rest : List HostAccess) :
    (s.taken rest).col = s.col := rfl
@[simp] theorem State.taken_nb (s : State) (rest : List HostAccess) :
    (s.taken rest).nb = s.nb := rfl
@[simp] theorem State.taken_batchValid (s : State) (rest : List HostAccess) :
    (s.taken rest).batchValid = s.batchValid := rfl
@[simp] theorem State.taken_resW (s : State) (rest : List HostAccess) :
    (s.taken rest).resW = s.resW := rfl
@[simp] theorem State.taken_resH (s : State) (rest : List HostAccess) :
    (s.taken rest).resH = s.resH := rfl
@[simp] theorem State.taken_gfound (s : State) (rest : List HostAccess) :
    (s.taken rest).gfound = s.gfound := rfl
@[simp] theorem State.taken_measW (s : State) (rest : List HostAccess) :
    (s.taken rest).measW = s.measW := rfl
@[simp] theorem State.taken_measH (s : State) (rest : List HostAccess) :
    (s.taken rest).measH = s.measH := rfl
@[simp] theorem State.taken_fault (s : State) (rest : List HostAccess) :
    (s.taken rest).fault = s.fault := rfl
@[simp] theorem State.taken_faultCode (s : State) (rest : List HostAccess) :
    (s.taken rest).faultCode = s.faultCode := rfl
@[simp] theorem State.taken_faultInfo (s : State) (rest : List HostAccess) :
    (s.taken rest).faultInfo = s.faultInfo := rfl
@[simp] theorem State.taken_xferFail (s : State) (rest : List HostAccess) :
    (s.taken rest).xferFail = s.xferFail := rfl
@[simp] theorem State.taken_argXY (s : State) (rest : List HostAccess) :
    (s.taken rest).argXY = s.argXY := rfl
@[simp] theorem State.taken_surfAddr (s : State) (rest : List HostAccess) :
    (s.taken rest).surfAddr = s.surfAddr := rfl
@[simp] theorem State.taken_batchAddr (s : State) (rest : List HostAccess) :
    (s.taken rest).batchAddr = s.batchAddr := rfl
@[simp] theorem State.taken_hold (s : State) (rest : List HostAccess) :
    (s.taken rest).hold = s.hold := rfl
@[simp] theorem State.taken_displayLog (s : State) (rest : List HostAccess) :
    (s.taken rest).displayLog = s.displayLog := rfl
@[simp] theorem State.taken_bus (s : State) (rest : List HostAccess) :
    (s.taken rest).bus = rest := rfl
@[simp] theorem State.taken_port (s : State) (rest : List HostAccess) :
    (s.taken rest).port = s.port := rfl
@[simp] theorem State.taken_resetPin (s : State) (rest : List HostAccess) :
    (s.taken rest).resetPin = s.resetPin.tail := rfl
@[simp] theorem State.taken_reads (s : State) (rest : List HostAccess) :
    (s.taken rest).reads = s.reads := rfl
@[simp] theorem State.taken_resets (s : State) (rest : List HostAccess) :
    (s.taken rest).resets = s.resets := rfl

end Sys2Proof.Machine
end

