-- ==== Sys2Proof/Laws/Ops.lean ====
section
/-! SUPPORT. What the shared operations can do, once each: byte reads after a poke, raising a fault,
running a command under its checks, and which fields the effects of commands may change. -/

namespace Sys2Proof.Machine

open Sys2Proof

theorem surfByte_pokeSurf (s : State) (i j : Nat) (b : Byte) :
    (s.pokeSurf i b).surfByte j = if j = i then b else s.surfByte j := by
  simp only [State.surfByte, State.pokeSurf_surf, State.pokeSurf_resets, Memory.read_write]
  split <;> simp

@[simp] theorem surfByte_pokeSurf_same (s : State) (i : Nat) (b : Byte) :
    (s.pokeSurf i b).surfByte i = b := by simp [surfByte_pokeSurf]

theorem batchByte_pokeBatch (s : State) (i j : Nat) (b : Byte) :
    (s.pokeBatch i b).batchByte j = if j = i then b else s.batchByte j := by
  simp only [State.batchByte, State.pokeBatch_batch, State.pokeBatch_resets, Memory.read_write]
  split <;> simp

@[simp] theorem surfByte_pokeBatch (s : State) (i j : Nat) (b : Byte) :
    (s.pokeBatch i b).surfByte j = s.surfByte j := rfl

@[simp] theorem surfByte_setCursor (s : State) (p c j : Nat) :
    (s.setCursor p c).surfByte j = s.surfByte j := rfl

@[simp] theorem loNibble_nibbles (hi lo : Nibble) : loNibble (nibbles hi lo) = lo := by
  ext i hi
  simp only [loNibble, nibbles, BitVec.getElem_extractLsb', BitVec.getLsbD_append]
  simp [hi]

@[simp] theorem hiNibble_nibbles (hi lo : Nibble) : hiNibble (nibbles hi lo) = hi := by
  ext i hi
  simp only [hiNibble, nibbles, BitVec.getElem_extractLsb', BitVec.getLsbD_append]
  simp [BitVec.getLsbD_eq_getElem, *]

theorem nibbles_hi_lo (b : Byte) : nibbles (hiNibble b) (loNibble b) = b := by
  revert b; decide

/-! ### Faults and commands -/

theorem raiseFault_of_clean {s : State} (h : s.fault = false) (c : FaultCode) (info : Word) :
    s.raiseFault c info = s.faulted c.bits info := by simp [State.raiseFault, State.faulted, h]

theorem raiseFault_of_faulted {s : State} (h : s.fault = true) (c : FaultCode) (info : Word) :
    s.raiseFault c info = s := by simp [State.raiseFault, h]

theorem runCommand_of_faulted {s : State} (h : s.fault = true) (i : Instr) (check : Option FaultCode)
    (effect : State) : runCommand i s check effect = .next s := by simp [runCommand, h]

theorem runCommand_of_check {s : State} (h : s.fault = false) (i : Instr) (c : FaultCode)
    (effect : State) : runCommand i s (some c) effect = .next (s.faulted c.bits (encode i)) := by
  simp [runCommand, h, raiseFault_of_clean]

theorem runCommand_of_clear {s : State} (h : s.fault = false) (i : Instr) (effect : State) :
    runCommand i s none effect = .next effect := by simp [runCommand, h]

/-- Everything a command under its checks can do. -/
theorem runCommand_cases {i : Instr} {s t effect : State} {check : Option FaultCode}
    (h : runCommand i s check effect = .next t) :
    (s.fault = true ∧ t = s) ∨
    (s.fault = false ∧ ∃ c, check = some c ∧ t = s.faulted c.bits (encode i)) ∨
    (s.fault = false ∧ check = none ∧ t = effect) := by
  cases hf : s.fault with
  | true =>
    rw [runCommand_of_faulted hf] at h
    exact .inl ⟨rfl, by cases h; rfl⟩
  | false =>
    cases hc : check with
    | none =>
      rw [hc, runCommand_of_clear hf] at h
      exact .inr (.inr ⟨rfl, rfl, by cases h; rfl⟩)
    | some c =>
      rw [hc, runCommand_of_check hf] at h
      exact .inr (.inl ⟨rfl, c, rfl, by cases h; rfl⟩)

theorem runCommand_answers (i : Instr) (s effect : State) (check : Option FaultCode) :
    ∃ t, runCommand i s check effect = .next t := by
  simp only [runCommand]
  split
  · exact ⟨_, rfl⟩
  · split <;> exact ⟨_, rfl⟩

/-! ### Effects that write the surface only -/

/-- `t` is `s` but for the surface. -/
def SurfOnly (s t : State) : Prop := ∃ m, t = { s with surf := m }

theorem SurfOnly.refl (s : State) : SurfOnly s s := ⟨s.surf, rfl⟩

theorem SurfOnly.trans {s t u : State} (h : SurfOnly s t) (k : SurfOnly t u) : SurfOnly s u := by
  obtain ⟨m, rfl⟩ := h
  obtain ⟨n, rfl⟩ := k
  exact ⟨n, rfl⟩

theorem SurfOnly.foldl {α : Type} {f : State → α → State} (hf : ∀ t a, SurfOnly t (f t a)) (l : List α)
    (s : State) : SurfOnly s (l.foldl f s) := by
  induction l generalizing s with
  | nil => exact SurfOnly.refl s
  | cons a l ih => exact (hf s a).trans (ih (f s a))

theorem surfOnly_pokeSurf (s : State) (i : Nat) (b : Byte) : SurfOnly s (s.pokeSurf i b) := ⟨_, rfl⟩

theorem surfOnly_clearSurface (s : State) : SurfOnly s (clearSurface s) :=
  SurfOnly.foldl (fun t i => surfOnly_pokeSurf t i _) _ s

theorem surfOnly_fadeSurface (s : State) : SurfOnly s (fadeSurface s) :=
  SurfOnly.foldl (fun t i => surfOnly_pokeSurf t i _) _ s

theorem surfOnly_copyRow (old s : State) (r q : Nat) : SurfOnly s (copyRow old s r q) :=
  SurfOnly.foldl (fun t _ => surfOnly_pokeSurf t _ _) _ s

theorem surfOnly_scrollRows (s : State) (D : Int) : SurfOnly s (scrollRows s D) := by
  simp only [scrollRows]
  split
  · exact SurfOnly.foldl (fun t _ => surfOnly_copyRow s t _ _) _ s
  · split
    · exact SurfOnly.foldl (fun t _ => surfOnly_copyRow s t _ _) _ s
    · exact SurfOnly.refl s

theorem surfOnly_mapRow (s : State) (r n : Nat) (f : Byte → Nat → Byte) : SurfOnly s (s.mapRow r n f) :=
  SurfOnly.foldl (fun t _ => surfOnly_pokeSurf t _ _) _ s

theorem surfOnly_sprRow (d : Descriptor) (s : State) (j : Nat) : SurfOnly s (sprRow d s j) :=
  surfOnly_mapRow _ _ _ _

theorem surfOnly_sprbRow (d : Descriptor) (s : State) (j : Nat) : SurfOnly s (sprbRow d s j) :=
  surfOnly_mapRow _ _ _ _

theorem surfOnly_spr2Row (d : Descriptor) (s : State) (j : Nat) : SurfOnly s (spr2Row d s j) := by
  simp only [spr2Row]
  exact (surfOnly_mapRow s _ _ _).trans (surfOnly_mapRow _ _ _ _)

theorem surfOnly_sprb2Row (d : Descriptor) (s : State) (j : Nat) : SurfOnly s (sprb2Row d s j) := by
  simp only [sprb2Row]
  split <;> exact (surfOnly_mapRow s _ _ _).trans (surfOnly_mapRow _ _ _ _)

theorem surfOnly_drawSprite {row : Descriptor → State → Nat → State}
    (hrow : ∀ d s j, SurfOnly s (row d s j)) (s : State) (k sc : Nat) :
    SurfOnly s (drawSprite s k sc row) := by
  simp only [drawSprite]
  split
  · exact SurfOnly.refl s
  · exact SurfOnly.foldl (hrow _) _ s

theorem surfOnly_glyphColumn (d : Descriptor) (j : Nat) (s : State) (i : Nat) :
    SurfOnly s (glyphColumn d j s i) := by
  simp only [glyphColumn]
  split
  · exact surfOnly_pokeSurf s _ _
  · exact SurfOnly.refl s

theorem surfOnly_drawGlyph (d : Descriptor) (s : State) : SurfOnly s (drawGlyph d s) :=
  SurfOnly.foldl (fun t j => SurfOnly.foldl (fun u i => surfOnly_glyphColumn d j u i) _ t) _ s

/-! ### Effects of the encoder and of transfers -/

/-- `t` is `s` but for the batch buffer and the cursor's PTR and COL. -/
def EncoderOnly (s t : State) : Prop := ∃ m p c, t = { s with batch := m, ptr := p, col := c }

theorem EncoderOnly.refl (s : State) : EncoderOnly s s := ⟨s.batch, s.ptr, s.col, rfl⟩

theorem EncoderOnly.trans {s t u : State} (h : EncoderOnly s t) (k : EncoderOnly t u) :
    EncoderOnly s u := by
  obtain ⟨m, p, c, rfl⟩ := h
  obtain ⟨m', p', c', rfl⟩ := k
  exact ⟨m', p', c', rfl⟩

theorem EncoderOnly.foldl {α : Type} {f : State → α → State} (hf : ∀ t a, EncoderOnly t (f t a))
    (l : List α) (s : State) : EncoderOnly s (l.foldl f s) := by
  induction l generalizing s with
  | nil => exact EncoderOnly.refl s
  | cons a l ih => exact (hf s a).trans (ih (f s a))

theorem encoderOnly_encode1 (s : State) (p : Nat) : EncoderOnly s (encode1 s p) := ⟨_, _, _, rfl⟩

theorem encoderOnly_encode2 (s : State) (p : Nat) : EncoderOnly s (encode2 s p) := by
  simp only [encode2, State.advance2]
  split <;> exact ⟨_, _, _, rfl⟩

@[simp] theorem encodeSteps_zero (s : State) : encodeSteps s 0 = s := by simp [encodeSteps]

/-- One more step of the loop: `Step1` and its two puts, or `Step2` and its put. -/
theorem encodeSteps_succ (s : State) (n : Nat) :
    encodeSteps s (n + 1) =
      if s.cfg.ss = 1 then encode1 (encodeSteps s n) (2 * n) else encode2 (encodeSteps s n) n := by
  simp only [encodeSteps, List.range_succ, List.foldl_append, List.foldl_cons, List.foldl_nil]
  split <;> rfl

theorem encoderOnly_encodeSteps (s : State) (n : Nat) : EncoderOnly s (encodeSteps s n) := by
  induction n with
  | zero => simpa using EncoderOnly.refl s
  | succ n ih =>
    rw [encodeSteps_succ]
    split
    · exact ih.trans (encoderOnly_encode1 _ _)
    · exact ih.trans (encoderOnly_encode2 _ _)

theorem encoderOnly_encodeBatch (s : State) : EncoderOnly s (encodeBatch s) :=
  encoderOnly_encodeSteps s _

/-- What BATCH's effect may change (R185). -/
theorem produceBatch_frame (s : State) :
    ∃ m p c, produceBatch s = { s with
      batch := m, ptr := p, col := c, batchValid := true, nb := s.nb + 1#16
      st := if (s.nb + 1#16).toNat = s.cfg.nbFrame then .idle else s.st } := by
  obtain ⟨m, p, c, h⟩ := encoderOnly_encodeBatch s
  exact ⟨m, p, c, by rw [produceBatch, h]; rfl⟩

/-- `t` is `s` but for what a command that talks to the display may change: the encoder's state, XFER_FAIL,
the transfer in progress, the port's answers used up, and entries added to the display log. -/
structure TransferOnly (s t : State) : Prop where
  cfg : t.cfg = s.cfg
  surf : t.surf = s.surf
  resW : t.resW = s.resW
  resH : t.resH = s.resH
  gfound : t.gfound = s.gfound
  measW : t.measW = s.measW
  measH : t.measH = s.measH
  fault : t.fault = s.fault
  faultCode : t.faultCode = s.faultCode
  faultInfo : t.faultInfo = s.faultInfo
  argXY : t.argXY = s.argXY
  surfAddr : t.surfAddr = s.surfAddr
  batchAddr : t.batchAddr = s.batchAddr
  bus : t.bus = s.bus
  resetPin : t.resetPin = s.resetPin
  reads : t.reads = s.reads
  resets : t.resets = s.resets
  displayLog : ∃ more, t.displayLog = s.displayLog ++ more

theorem TransferOnly.of_update (s : State) (m : Memory) (v : Bool) (n : BitVec 16) (p : BitVec 24)
    (c : BitVec 16) (st : ScanState) (x : Bool) (h : Option Hold) (q : List (Option Answer)) :
    TransferOnly s { s with
      batch := m, batchValid := v, nb := n, ptr := p, col := c, st := st, xferFail := x, hold := h
      port := q } :=
  ⟨rfl, rfl, rfl, rfl, rfl, rfl, rfl, rfl, rfl, rfl, rfl, rfl, rfl, rfl, rfl, rfl, rfl, [],
    (List.append_nil _).symm⟩

theorem TransferOnly.of_log (s : State) (l : List (DisplayEvent × Answer)) :
    TransferOnly s { s with displayLog := s.displayLog ++ l } :=
  ⟨rfl, rfl, rfl, rfl, rfl, rfl, rfl, rfl, rfl, rfl, rfl, rfl, rfl, rfl, rfl, rfl, rfl, l, rfl⟩

theorem TransferOnly.trans {s t u : State} (h : TransferOnly s t) (k : TransferOnly t u) :
    TransferOnly s u := by
  obtain ⟨l, hl⟩ := h.displayLog
  obtain ⟨l', hl'⟩ := k.displayLog
  exact ⟨k.cfg.trans h.cfg, k.surf.trans h.surf, k.resW.trans h.resW, k.resH.trans h.resH,
    k.gfound.trans h.gfound, k.measW.trans h.measW, k.measH.trans h.measH, k.fault.trans h.fault,
    k.faultCode.trans h.faultCode, k.faultInfo.trans h.faultInfo, k.argXY.trans h.argXY,
    k.surfAddr.trans h.surfAddr, k.batchAddr.trans h.batchAddr, k.bus.trans h.bus,
    k.resetPin.trans h.resetPin, k.reads.trans h.reads, k.resets.trans h.resets,
    l ++ l', by rw [hl', hl, List.append_assoc]⟩

theorem transferOnly_endTransfer (s : State) (f : Bool) : TransferOnly s (s.endTransfer f) :=
  TransferOnly.of_update s _ _ _ _ _ _ _ _ _

theorem transferOnly_frameNext (s : State) (f : Bool) : TransferOnly s (frameNext s f) := by
  simp only [frameNext]
  split
  · obtain ⟨m, p, c, h⟩ := produceBatch_frame s
    rw [h]
    exact TransferOnly.of_update s _ _ _ _ _ _ _ _ _
  · exact transferOnly_endTransfer s f

/-- What an answer to a held Emit may change. -/
theorem transferOnly_answered (h : Hold) (a : Answer) (s : State) : TransferOnly s (answered h a s) := by
  have hlog := TransferOnly.of_log s [(s.offered h, a)]
  cases h with
  | send => exact hlog.trans (transferOnly_endTransfer _ _)
  | addrColumn => exact hlog.trans (TransferOnly.of_update _ _ _ _ _ _ _ _ _ _)
  | addrRow f => exact hlog.trans (transferOnly_endTransfer _ _)
  | frameColumn => exact hlog.trans (TransferOnly.of_update _ _ _ _ _ _ _ _ _ _)
  | frameRow f =>
    exact hlog.trans ((TransferOnly.of_update _ _ _ _ _ _ _ _ _ _).trans (transferOnly_frameNext _ _))
  | frameData f => exact hlog.trans (transferOnly_frameNext _ _)

/-- What going on with a command in progress may change. -/
theorem transferOnly_pump (p : List (Option Answer)) (s : State) : TransferOnly s (pump p s) := by
  induction p generalizing s with
  | nil => exact TransferOnly.of_update s _ _ _ _ _ _ _ _ _
  | cons x rest ih =>
    cases x with
    | none =>
      simp only [pump]
      split <;> exact TransferOnly.of_update s _ _ _ _ _ _ _ _ _
    | some a =>
      simp only [pump]
      split
      · exact (transferOnly_answered _ a s).trans (ih _)
      · exact TransferOnly.of_update s _ _ _ _ _ _ _ _ _

theorem transferOnly_transfer (s : State) (h : Hold) : TransferOnly s (s.transfer h) :=
  (TransferOnly.of_update s _ _ _ _ _ _ _ _ _).trans (transferOnly_pump s.port _)

end Sys2Proof.Machine
end

