-- ==== Sys2Proof/Laws/PerInstr.lean ====
section
/-! SUPPORT. The family TableRow: the word of every command carries its row's OPC, a zero RSV, and IMM
zero in format N (spec/30_encoding.md R81, R82, R85). -/

namespace Sys2Proof.Laws.TableRow

open Sys2Proof

/-- The bits of a command's word that its row of R85 fixes: the whole word in format N, bits [31:16] in
format I. -/
def rowMatches (value mask : Word) (i : Instr) : Prop := encode i &&& mask = value

/-- What R85's row of the command says of its word. -/
def Statement : Instr → Prop
  | .clear => rowMatches 0x01000000#32 0xFFFFFFFF#32 .clear
  | .fade => rowMatches 0x02000000#32 0xFFFFFFFF#32 .fade
  | .scroll d => rowMatches 0x03000000#32 0xFFFF0000#32 (.scroll d)
  | .spr k => rowMatches 0x10000000#32 0xFFFF0000#32 (.spr k)
  | .sprb k => rowMatches 0x11000000#32 0xFFFF0000#32 (.sprb k)
  | .spr2 k => rowMatches 0x12000000#32 0xFFFF0000#32 (.spr2 k)
  | .sprb2 k => rowMatches 0x13000000#32 0xFFFF0000#32 (.sprb2 k)
  | .glyph code => rowMatches 0x20000000#32 0xFFFF0000#32 (.glyph code)
  | .mclr => rowMatches 0x21000000#32 0xFFFFFFFF#32 .mclr
  | .madd code => rowMatches 0x22000000#32 0xFFFF0000#32 (.madd code)
  | .begin => rowMatches 0x30000000#32 0xFFFFFFFF#32 .begin
  | .batch => rowMatches 0x31000000#32 0xFFFFFFFF#32 .batch
  | .send => rowMatches 0x32000000#32 0xFFFFFFFF#32 .send
  | .addr => rowMatches 0x33000000#32 0xFFFFFFFF#32 .addr
  | .frame => rowMatches 0x34000000#32 0xFFFFFFFF#32 .frame

/-- Masking the immediate away leaves the opcode and zeros. -/
theorem mask_immediate (o : BitVec 8) (m : BitVec 16) :
    (o ++ 0#8 ++ m : BitVec 32) &&& 0xFFFF0000#32 = o ++ 0#8 ++ 0#16 := by
  have h : (0xFFFF0000#32 : BitVec 32) = BitVec.allOnes 16 ++ 0#16 := by decide
  rw [h]
  ext k hk
  simp only [BitVec.getElem_and, BitVec.getElem_append, BitVec.getElem_allOnes]
  split <;> simp only [BitVec.getElem_zero, Bool.and_false, Bool.and_true]

theorem clear : Statement .clear := by unfold Statement rowMatches; decide
theorem fade : Statement .fade := by unfold Statement rowMatches; decide
theorem scroll (d : Int) : Statement (.scroll d) := mask_immediate 0x03#8 _
theorem spr (k : Nat) : Statement (.spr k) := mask_immediate 0x10#8 _
theorem sprb (k : Nat) : Statement (.sprb k) := mask_immediate 0x11#8 _
theorem spr2 (k : Nat) : Statement (.spr2 k) := mask_immediate 0x12#8 _
theorem sprb2 (k : Nat) : Statement (.sprb2 k) := mask_immediate 0x13#8 _
theorem glyph (code : Nat) : Statement (.glyph code) := mask_immediate 0x20#8 _
theorem mclr : Statement .mclr := by unfold Statement rowMatches; decide
theorem madd (code : Nat) : Statement (.madd code) := mask_immediate 0x22#8 _
theorem begin : Statement .begin := by unfold Statement rowMatches; decide
theorem batch : Statement .batch := by unfold Statement rowMatches; decide
theorem send : Statement .send := by unfold Statement rowMatches; decide
theorem addr : Statement .addr := by unfold Statement rowMatches; decide
theorem frame : Statement .frame := by unfold Statement rowMatches; decide

end Sys2Proof.Laws.TableRow
end

