-- ==== Sys2Proof/Laws/Step.lean ====
section
/-! SUPPORT. What a step can do: reset, go on with a command in progress, wait, or perform one host
access; and what a host access can do. -/

namespace Sys2Proof.Machine

open Sys2Proof

/-- Everything a step that answers a next state can be. -/
theorem step_cases {s t : State} (h : step s = .next t) :
    (s.resetAsserted = true ∧ t = s.samplePin.platformReset) ∨
    (s.resetAsserted = false ∧ s.hold ≠ none ∧ t = pump s.port s.samplePin) ∨
    (s.resetAsserted = false ∧ s.hold = none ∧ s.bus = [] ∧ t = s.samplePin) ∨
    (s.resetAsserted = false ∧ s.hold = none ∧ ∃ a rest, s.bus = a :: rest ∧
      hostAccess a (s.taken rest) = .next t) := by
  simp only [step, runStep] at h
  split at h
  · rename_i hr
    cases h
    exact .inl ⟨hr, rfl⟩
  · rename_i hr
    have hr : s.resetAsserted = false := by simpa using hr
    simp only [runBlock, State.samplePin_hold] at h
    split at h
    · rename_i x hx
      cases h
      exact .inr (.inl ⟨hr, by simp [hx], rfl⟩)
    · rename_i hn
      simp only [State.samplePin_bus] at h
      split at h
      · rename_i hb
        cases h
        exact .inr (.inr (.inl ⟨hr, hn, hb, rfl⟩))
      · rename_i a rest hb
        exact .inr (.inr (.inr ⟨hr, hn, a, rest, hb, h⟩))

/-- A step that is neither a reset, nor a held command, nor a wait, is the host's access. -/
theorem step_of_access {s : State} {a : HostAccess} {rest : List HostAccess}
    (h : s.AboutToAccess a rest) : step s = hostAccess a (s.taken rest) := by
  obtain ⟨hr, hh, hb⟩ := h
  cases s
  subst hh hb
  simp only [step, runStep, hr]
  rfl

theorem blockOffset_base (c : Config) {off : Nat} (h : off < 0x80) :
    blockOffset c (c.base + off) = some off := by
  simp [blockOffset, h]

/-- A register write that is stored changes an operand register and nothing else (R54). -/
theorem writeReg_cases {s t : State} {v : Word} {r : Reg} (h : s.writeReg v r = some t) :
    t = { s with argXY := v } ∨ t = { s with surfAddr := v.extractLsb' 0 24 } ∨
    t = { s with batchAddr := v.extractLsb' 0 16 } := by
  cases r <;> simp [State.writeReg] at h <;> simp [← h]

/-- Everything a host access that answers a next state can be (R53, R54): a CMD write, a legal register
write, a legal read, or an illegal access. -/
theorem hostAccess_cases {a : HostAccess} {s t : State} (h : hostAccess a s = .next t) :
    ∃ off, blockOffset s.cfg a.addr = some off ∧
      ((∃ w, a.kind = .write w ∧ accessedReg off a.bits = some .cmd ∧ commandWrite w s = .next t) ∨
        (∃ v r, a.kind = .write v ∧ accessedReg off a.bits = some r ∧ s.writeReg v r = some t) ∨
        (∃ v r, a.kind = .read ∧ accessedReg off a.bits = some r ∧ s.readReg r = some v ∧
          t = s.reply v) ∨
        t = badAccess s off a.kind) := by
  simp only [hostAccess] at h
  split at h
  · cases h
  · rename_i off hoff
    refine ⟨off, hoff, ?_⟩
    split at h
    · rename_i w hr hk
      exact .inl ⟨w, hk, hr, h⟩
    · rename_i r v _ hr hk
      split at h
      · rename_i u hu
        cases h
        exact .inr (.inl ⟨v, r, hk, hr, hu⟩)
      · cases h
        exact .inr (.inr (.inr rfl))
    · rename_i r hr hk
      split at h
      · rename_i v hv
        cases h
        exact .inr (.inr (.inl ⟨v, r, hk, hr, hv, rfl⟩))
      · cases h
        exact .inr (.inr (.inr rfl))
    · cases h
      exact .inr (.inr (.inr rfl))

end Sys2Proof.Machine
end

