-- ==== Sys2Proof/Tests/Slice0.lean ====
section
/-! SUPPORT. The model's own tests. Expected results are those of spec/95_test_vectors.md (the section is
named at each), or are read off the rule named. Then, for every statement with hypotheses, a state and
operands that meet them together. -/

namespace Sys2Proof.Tests

open Sys2Proof Sys2Proof.Machine

/-! ### Well-formedness refuses each ill-formed term -/

theorem test_wf_scroll_low : (Instr.scroll (-32769)).wf = false := by decide
theorem test_wf_scroll_high : (Instr.scroll 32768).wf = false := by decide
theorem test_wf_spr : (Instr.spr 65536).wf = false := by decide
theorem test_wf_sprb : (Instr.sprb 65536).wf = false := by decide
theorem test_wf_spr2 : (Instr.spr2 65536).wf = false := by decide
theorem test_wf_sprb2 : (Instr.sprb2 65536).wf = false := by decide
theorem test_wf_glyph : (Instr.glyph 65536).wf = false := by decide
theorem test_wf_madd : (Instr.madd 65536).wf = false := by decide
theorem test_wf_edges : (Instr.scroll (-32768)).wf = true ∧ (Instr.scroll 32767).wf = true ∧
    (Instr.spr 65535).wf = true ∧ (Instr.glyph 65535).wf = true := by decide

/-! ### Admitted configurations (00_scope R6, R8, R9): TC1 and TC2, and one configuration refused by each check -/

theorem test_config_tc1 : Config.tc1.wf = true := by decide
theorem test_config_tc2 : Config.tc2.wf = true := by decide
theorem test_config_a : Config.wf { Config.tc1 with ss := 3 } = false := by decide
theorem test_config_range : Config.wf { Config.tc1 with base := 64 } = false := by decide
theorem test_config_b : Config.widthEven { Config.tc1 with nw := 7 } = false := by decide
theorem test_config_c : Config.chunksExact { Config.tc1 with chunkBytes := 12 } = false := by decide
theorem test_config_d : Config.chunkOk { Config.tc1 with chunkBytes := 2 } = false := by decide
theorem test_config_e : Config.rowsExact { Config.tc2 with chunkBytes := 16 } = false := by decide
theorem test_config_f : Config.sizesOk { Config.tc2 with nh := 16384 } = false := by decide
theorem test_config_g : Config.tablesOk { Config.tc1 with lastCode := 0x2F } = false := by decide
theorem test_config_h_sprite : Config.assetsOk { Config.tc1 with srom := [] } = false := by decide
theorem test_config_h_glyph : Config.assetsOk { Config.tc1 with grom := [] } = false := by decide
theorem test_build_refuses : State.build { Config.tc1 with ss := 3 } = none := by decide

/-! ### Decoding: words written out from the table of 30_encoding R85 -/

theorem test_decode_clear : decode 0x01000000#32 = .ok .clear := by decide
theorem test_decode_fade : decode 0x02000000#32 = .ok .fade := by decide
theorem test_decode_scroll : decode 0x03008000#32 = .ok (.scroll (-32768)) := by decide
theorem test_decode_spr : decode 0x10000003#32 = .ok (.spr 3) := by decide
theorem test_decode_sprb : decode 0x11000001#32 = .ok (.sprb 1) := by decide
theorem test_decode_spr2 : decode 0x1200FFFF#32 = .ok (.spr2 65535) := by decide
theorem test_decode_sprb2 : decode 0x13008001#32 = .ok (.sprb2 32769) := by decide
theorem test_decode_glyph : decode 0x20000031#32 = .ok (.glyph 0x31) := by decide
theorem test_decode_mclr : decode 0x21000000#32 = .ok .mclr := by decide
theorem test_decode_madd : decode 0x2200007F#32 = .ok (.madd 0x7F) := by decide
theorem test_decode_begin : decode 0x30000000#32 = .ok .begin := by decide
theorem test_decode_batch : decode 0x31000000#32 = .ok .batch := by decide
theorem test_decode_send : decode 0x32000000#32 = .ok .send := by decide
theorem test_decode_addr : decode 0x33000000#32 = .ok .addr := by decide
theorem test_decode_frame : decode 0x34000000#32 = .ok .frame := by decide
theorem test_decode_zero : decode 0x00000000#32 = .error .unknownOpcode := by decide
theorem test_decode_unassigned : decode 0x35000000#32 = .error .unknownOpcode := by decide
theorem test_decode_reserved_n : decode 0x01000001#32 = .error .reservedBit := by decide
theorem test_decode_reserved_i : decode 0x10010000#32 = .error .reservedBit := by decide
theorem test_encode_scroll : encode (.scroll (-9)) = 0x0300FFF7#32 := by decide
theorem test_table_word : decodeTableWord 32 0x22000030 = some (.madd 0x30) := by decide

/-! ### Codec (95 section 2) -/

theorem test_pack : pack 0x12#8 0x34#8 0x56#8 = 0x11AA#16 := by decide
theorem test_expand : expand 0x8C51#16 = 0x00112211#32 := by decide
theorem test_unexpand : unexpand 0x00123456#32 = 0x9696#16 := by decide
theorem test_unexpand_masks : unexpand 0x00E0C0E0#32 = 0x0000#16 := by decide
theorem test_avg4 : avg4 0xF800#16 0x07E0#16 0x001F#16 0xFFFF#16 = 0x7BEF#16 := by decide
theorem test_avg4_half_red : avg4 0xF800#16 0xF800#16 0#16 0#16 = 0x7800#16 := by decide
theorem test_bswap : bswap16 0xF800#16 = 0x00F8#16 := by decide

/-! ### One step each, on small states -/

/-- The state after reset with configuration `c`, the surface `bytes`, and ARG_XY `xy`. -/
def lit (c : Config) (bytes : List Byte) (xy : Word) : State :=
  { State.resetFor c with surf := (List.range bytes.length).zip bytes, argXY := xy }

/-- `lit` with every surface byte `b`. -/
def full (c : Config) (b : Byte) (xy : Word) : State := lit c (List.replicate c.surfBytes b) xy

/-- The state a step that runs the word `w` leaves; `s` itself where it does not answer one. -/
def after (w : Nat) (s : State) : State :=
  match step (s.withFetchWord 32 w) with
  | .next t => t
  | .fault _ => s
  | .refused _ => s

/-- Surface row r. -/
def row (s : State) (r : Nat) : List Byte :=
  (List.range s.cfg.stride).map (fun c => s.surfByte (r * s.cfg.stride + c))

/-- Rows A, B, C, D of the SCROLL vectors, on TC2 (95 section 3). -/
def abcd : State :=
  lit Config.tc2 (List.replicate 4 0xA0#8 ++ List.replicate 4 0xB0#8 ++ List.replicate 4 0xC0#8 ++
    List.replicate 4 0xD0#8) 0#32

theorem test_clear : (List.range 32).map (after 0x01000000 (full Config.tc1 0x5A#8 0#32)).surfByte =
    List.replicate 32 0#8 := by decide

theorem test_clear_phase :
    (after 0x01000000 { full Config.tc1 0x5A#8 0#32 with st := .streaming }).statusWord = 0x00000203#32 := by
  decide

theorem test_fade : row (after 0x02000000 (full Config.tc1 0x10#8 0#32)) 7 = [0#8, 0#8, 0#8, 0#8] := by
  decide

theorem test_fade_both : row (after 0x02000000 (full Config.tc1 0xF1#8 0#32)) 0 =
    [0xE0#8, 0xE0#8, 0xE0#8, 0xE0#8] := by decide

theorem test_scroll_down : (List.range 4).map (fun r => (after 0x03000001 abcd).surfByte (4 * r)) =
    [0xA0#8, 0xA0#8, 0xB0#8, 0xC0#8] := by decide

theorem test_scroll_clamped_up : (List.range 4).map (fun r => (after 0x0300FFF7 abcd).surfByte (4 * r + 3)) =
    [0xD0#8, 0xB0#8, 0xC0#8, 0xD0#8] := by decide

theorem test_spr_clipped_top : row (after 0x10000000 (full Config.tc1 0#8 0xFFFF0000#32)) 0 =
    [0x40#8, 0x56#8, 0#8, 0#8] := by decide

theorem test_spr_hbounds :
    let t := after 0x10000000 (full Config.tc1 0#8 0x00140006#32)
    t.faultCode = 0x05#8 ∧ t.faultInfo = 0x10000000#32 := by decide

theorem test_sprb_transparent : row (after 0x11000001 (full Config.tc1 0x77#8 0#32)) 0 =
    [0x7A#8, 0x7B#8, 0x77#8, 0x77#8] := by decide

theorem test_sprb_index : (after 0x11000003 (full Config.tc1 0x77#8 0#32)).faultCode = 0x04#8 := by decide

theorem test_spr2_clipped :
    let t := after 0x12000002 (full Config.tc1 0#8 0xFFFF0004#32)
    row t 0 = [0#8, 0#8, 0#8, 0#8] ∧ row t 2 = [0#8, 0#8, 0x22#8, 0x22#8] ∧
    row t 6 = [0#8, 0#8, 0x44#8, 0x44#8] ∧ row t 7 = [0#8, 0#8, 0#8, 0#8] := by decide

theorem test_sprb2_copies_row : row (after 0x13000001
      (lit Config.tc1 (List.replicate 4 0x11#8 ++ List.replicate 4 0x22#8) 0#32)) 1 =
    [0xAA#8, 0x77#8, 0xBB#8, 0x11#8] := by decide

theorem test_sprb2_blends_row : row (after 0x13000001
      (lit { Config.tc1 with row2 := .blendIndependent }
        (List.replicate 4 0x11#8 ++ List.replicate 4 0x22#8) 0#32)) 1 =
    [0xAA#8, 0x77#8, 0xBB#8, 0x22#8] := by decide

theorem test_glyph_odd_column :
    let t := after 0x20000031 (full { Config.tc1 with glyphInkOdd := 14#4 } 0#8 0x00000001#32)
    row t 4 = [0xE0#8, 0xEF#8, 0#8, 0#8] ∧ t.resW = 3#16 ∧ t.resH = 5#16 ∧ t.gfound = true := by decide

theorem test_glyph_bounds : (after 0x20000030 (full Config.tc1 0#8 0x00040000#32)).faultCode = 0x06#8 := by
  decide

theorem test_mclr : (after 0x21000000 { State.reset with measW := 7#16, measH := 5#16 }).measW = 0#16 := by
  decide

theorem test_madd :
    let t := after 0x22000030 { State.reset with measW := 0xFFFF#16, measH := 9#16 }
    t.measW = 3#16 ∧ t.measH = 9#16 ∧ t.gfound = true := by decide

theorem test_madd_unknown :
    let t := after 0x2200007F { State.reset with measW := 7#16, gfound := true }
    t.measW = 7#16 ∧ t.gfound = false ∧ t.fault = false := by decide

theorem test_begin : (after 0x30000000 State.reset).statusWord = 0x00000001#32 := by decide

/-- The surface `surf[i] = 8i` of 95 section 5, in a pass about to produce batch 1 (the second). -/
def ramp : State :=
  { lit Config.tc1 ((List.range 32).map (fun i => BitVec.ofNat 8 (8 * i))) 0#32 with
    st := .streaming, nb := 1#16, ptr := 4#24, batchValid := true
    batch := (List.range 16).zip (List.replicate 16 0#8) }

theorem test_batch : (after 0x31000000 ramp).batchBytes =
    [0x00#8, 0x00#8, 0x07#8, 0xE0#8, 0x8C#8, 0x51#8, 0x07#8, 0xE0#8] ++
    [0x00#8, 0x00#8, 0x00#8, 0x1F#8, 0x8C#8, 0x51#8, 0x00#8, 0x1F#8] := by decide

/-- The TC2 surface of 95 section 5, at the start of a pass. -/
def pass2 : State :=
  { lit Config.tc2 ([0xAA#8, 0x77#8, 0xBB#8, 0x00#8, 0xAA#8, 0x77#8, 0xBB#8, 0x00#8] ++
      [0x21#8, 0x03#8, 0x00#8, 0x00#8, 0x40#8, 0x56#8, 0x00#8, 0x00#8]) 0#32 with
    st := .streaming, nb := 1#16, ptr := 8#24, batchValid := true
    batch := (List.range 8).zip (List.replicate 8 0#8) }

theorem test_batch_box_filter :
    let t := after 0x31000000 pass2
    t.batchBytes = [0x4A#8, 0x82#8, 0x29#8, 0x6D#8, 0#8, 0#8, 0#8, 0#8] ∧ t.ptr = 16#24 ∧
    t.statusWord = 0x00020008#32 := by decide

theorem test_send :
    let t := after 0x32000000 { ramp with port := [some .fail] }
    t.displayLog = [(.data (List.replicate 16 0#8), .fail)] ∧ t.xferFail = true ∧ t.hold = none := by decide

theorem test_send_empty : (after 0x32000000 State.reset).faultCode = 0x07#8 := by decide

theorem test_addr :
    let t := after 0x33000000 { State.reset with port := [some .fail, some .ok] }
    t.displayLog = [(.setColumnRange 0 7, .fail), (.setRowRange 0 7, .ok)] ∧ t.xferFail = true := by decide

theorem test_addr_holds : (after 0x33000000 { State.reset with port := [some .ok, none] }).hold =
    some (.addrRow false) := by decide

theorem test_frame :
    let t := after 0x34000000 { pass2 with st := .idle, nb := 0#16, ptr := 0#24, port := List.replicate 4 (some .ok) }
    t.displayLog = [(.setColumnRange 0 3, .ok), (.setRowRange 0 1, .ok),
      (.data [0xAD#8, 0x55#8, 0x73#8, 0xAE#8, 0xBD#8, 0xD7#8, 0#8, 0#8], .ok),
      (.data [0x4A#8, 0x82#8, 0x29#8, 0x6D#8, 0#8, 0#8, 0#8, 0#8], .ok)] ∧
    t.statusWord = 0x00020008#32 := by decide

/-! ### Host accesses (95 section 6) -/

/-- The state one host access leaves. -/
def access (a : HostAccess) (s : State) : State :=
  match step { s with bus := [a] } with
  | .next t => t
  | .fault _ => s
  | .refused _ => s

theorem test_read_reserved :
    let t := access ⟨0x44, 32, .read⟩ State.reset
    t.faultInfo = 0x00000044#32 ∧ t.faultCode = 0x08#8 ∧ t.reads = [0#32] := by decide

theorem test_write_status : (access ⟨0x14, 32, .write 0#32⟩ State.reset).faultInfo = 0x00010014#32 := by decide

theorem test_read_cmd : (access ⟨0x18, 32, .read⟩ State.reset).faultInfo = 0x00000018#32 := by decide

theorem test_narrow_read : (access ⟨0x15, 8, .read⟩ State.reset).faultInfo = 0x00000015#32 := by decide

theorem test_surf_addr_masks :
    (access ⟨0x34, 32, .write 0xFF000005#32⟩ State.reset).surfAddr = 5#24 := by decide

theorem test_read_config : (access ⟨0x04, 32, .read⟩ (State.resetFor Config.tc2)).reads = [0x00020002#32] := by
  decide

theorem test_read_chunk : (access ⟨0x0C, 32, .read⟩ State.reset).reads = [0x00080010#32] := by decide

theorem test_outside : (match step { State.reset with bus := [⟨0x80, 32, .read⟩] } with
    | .fault f => decide (f = .outsideBlock)
    | .next _ => false
    | .refused _ => false) = true := by decide

/-! ### Witnesses: each statement's hypotheses are met together, at each of its clauses -/

/-- `s` with one host access at the head of the bus. -/
def facing (a : HostAccess) (s : State) : State := { s with bus := [a] }

/-- `s` about to run the word `w`. -/
def facingWord (w : Word) (s : State) : State := facing (cmdWrite s.cfg w) s

theorem witness_DecodeOfEncode : ∀ i ∈ [Instr.clear, .scroll (-32768), .scroll 32767, .spr 0, .sprb2 65535,
    .glyph 65535, .madd 0, .frame], i.wf = true := by decide

theorem witness_EncodeOfDecode : decode 0x03008000#32 = .ok (.scroll (-32768)) ∧
    decode 0x34000000#32 = .ok .frame := by decide

theorem witness_WordsAreTableRowsOrIllegal :
    ∃ w : Word, ∃ r ∈ commandTable, w &&& r.2 = r.1 ∧ ∃ i, decode w = .ok i :=
  ⟨0x1000FFFF#32, (0x10000000#32, 0xFFFF0000#32), by decide, by decide, .spr 65535, by decide⟩

theorem witness_StepRunsDecodedCommand :
    (facingWord 0x01000000#32 State.reset).AboutToAccess (cmdWrite Config.tc1 0x01000000#32) [] ∧
    decode 0x01000000#32 = .ok .clear := by decide

theorem illegal_words_match_no_row :
    ∀ w ∈ [0x35000000#32, 0x10010000#32, 0x01000001#32, 0#32], ∀ r ∈ commandTable, w &&& r.2 ≠ r.1 := by
  simp [commandTable]

theorem witness_IllegalWordFaults_command :
    (facingWord 0x1000FFFF#32 State.reset).AboutToAccess (cmdWrite Config.tc1 0x1000FFFF#32) [] ∧
    (facingWord 0x1000FFFF#32 State.reset).fault = false ∧
    (0x10000000#32, 0xFFFF0000#32) ∈ commandTable ∧ 0x1000FFFF#32 &&& 0xFFFF0000#32 = 0x10000000#32 := by
  refine ⟨⟨rfl, rfl, rfl⟩, rfl, by simp [commandTable], by decide⟩

/-- Words with a bit set that their format requires to be 0 (the clauses of EncodedAsN, EncodedAsI). -/
theorem witness_reserved_bits :
    (∀ w : Word, (facingWord w State.reset).AboutToAccess (cmdWrite Config.tc1 w) [] ∧
      (facingWord w State.reset).fault = false) ∧
    (0x01000001#32).extractLsb' 24 8 = 0x01#8 ∧ (0x01000001#32).extractLsb' 0 24 ≠ 0#24 ∧
    (0x22800030#32).extractLsb' 24 8 = 0x22#8 ∧ (0x22800030#32).extractLsb' 16 8 ≠ 0#8 :=
  ⟨fun _ => ⟨⟨rfl, rfl, rfl⟩, rfl⟩, by decide⟩

theorem witness_IllegalWordFaults : ∀ w ∈ [0x35000000#32, 0x10010000#32, 0x01000001#32, 0#32],
    (facingWord w State.reset).AboutToAccess (cmdWrite Config.tc1 w) [] ∧
    (facingWord w State.reset).fault = false ∧ ∀ r ∈ commandTable, w &&& r.2 ≠ r.1 :=
  fun w hw => ⟨⟨rfl, rfl, rfl⟩, rfl, illegal_words_match_no_row w hw⟩

/-- A faulted state, Idle. -/
def broken : State := State.reset.faulted 0x03#8 0x31000000#32

/-- Every check of R225 applies somewhere, and none does somewhere. -/
theorem witness_ChecksInOrder_each :
    broken.fault = true ∧ ramp.fault = false ∧ firstFault ramp .clear = some 0x02#8 ∧
    firstFault State.reset .batch = some 0x03#8 ∧ firstFault State.reset (.spr 3) = some 0x04#8 ∧
    firstFault { State.reset with argXY := 6#32 } (.spr 0) = some 0x05#8 ∧
    firstFault { State.reset with argXY := 5#32 } (.glyph 0x30) = some 0x06#8 ∧
    firstFault State.reset .send = some 0x07#8 ∧ firstFault ramp .batch = none ∧
    firstFault { State.reset with argXY := 4#32 } (.spr 0) = none := by decide

theorem witness_ChecksInOrder :
    (facingWord 0x35000000#32 broken).AboutToAccess (cmdWrite Config.tc1 0x35000000#32) [] ∧
    (facingWord 0x10000003#32 State.reset).AboutToAccess (cmdWrite Config.tc1 0x10000003#32) [] ∧
    decode 0x10000003#32 = .ok (.spr 3) ∧ decode 0x35000000#32 = .error .unknownOpcode := by decide

theorem witness_FaultedCommandsHaveNoEffect : broken.fault = true := by decide

theorem witness_FaultingCommandChangesNothingElse :
    ∃ t, State.reset.fault = false ∧ exec .batch State.reset = .next t ∧ t.fault = true :=
  ⟨_, rfl, rfl, rfl⟩

theorem witness_FaultStaysUntilReset :
    let s := facing ⟨0x1C, 32, .write 7#32⟩ broken
    s.fault = true ∧ s.hold = none ∧ s.resetAsserted = false ∧ ∃ t, step s = .next t :=
  ⟨rfl, rfl, rfl, _, rfl⟩

theorem witness_IllegalAccessFaults_places :
    ∀ p ∈ [((0x14, 8, .read) : Nat × Nat × AccessKind), (0x15, 32, .read), (0x44, 32, .read),
      (0x7C, 32, .write 1#32), (0x18, 32, .read), (0x00, 32, .write 0#32), (0x40, 32, .write 0#32)],
    p.1 < 0x80 ∧ (facing ⟨0 + p.1, p.2.1, p.2.2⟩ State.reset).AboutToAccess ⟨0 + p.1, p.2.1, p.2.2⟩ [] := by
  decide

theorem witness_IllegalAccessFaults_ports :
    let s := { State.reset with surfAddr := 32#24, batchAddr := 16#16 }
    (facing ⟨0x38, 32, .read⟩ s).AboutToAccess ⟨0x38, 32, .read⟩ [] ∧ s.cfg.surfBytes ≤ s.surfAddr.toNat ∧
    (facing ⟨0x40, 32, .read⟩ s).AboutToAccess ⟨0x40, 32, .read⟩ [] ∧
    s.cfg.chunkBytes ≤ s.batchAddr.toNat := by decide

theorem witness_RegistersReadTheirFields : State.reset.cfg.wf = true ∧
    ∀ off ∈ [0x00, 0x04, 0x08, 0x0C, 0x10, 0x14, 0x1C, 0x20, 0x24, 0x28, 0x2C, 0x30, 0x34, 0x3C],
      (facing ⟨0 + off, 32, .read⟩ State.reset).AboutToAccess ⟨State.reset.cfg.base + off, 32, .read⟩ [] := by
  decide

theorem witness_DataPortsReadInRange :
    (∀ a : BitVec 24, (facing ⟨0x38, 32, .read⟩ { State.reset with surfAddr := a }).AboutToAccess
      ⟨State.reset.cfg.base + 0x38, 32, .read⟩ []) ∧
    (∀ a : BitVec 16, (facing ⟨0x40, 32, .read⟩ { State.reset with batchAddr := a }).AboutToAccess
      ⟨State.reset.cfg.base + 0x40, 32, .read⟩ []) ∧
    (31#24).toNat < Config.tc1.surfBytes ∧ Config.tc1.surfBytes ≤ (32#24).toNat ∧
    (15#16).toNat < Config.tc1.chunkBytes ∧ Config.tc1.chunkBytes ≤ (16#16).toNat :=
  ⟨fun _ => ⟨rfl, rfl, rfl⟩, fun _ => ⟨rfl, rfl, rfl⟩, by decide⟩

theorem witness_DataPortsReadInRange_faulted :
    let s := facing ⟨0x38, 32, .read⟩ { broken with surfAddr := 32#24 }
    s.fault = true ∧ s.AboutToAccess ⟨s.cfg.base + 0x38, 32, .read⟩ [] ∧
    s.cfg.surfBytes ≤ s.surfAddr.toNat := by decide

theorem witness_OperandRegisterWritesStore : ∀ off ∈ [0x1C, 0x34, 0x3C],
    (facing ⟨0 + off, 32, .write 0xFFFFFFFF#32⟩ ramp).AboutToAccess
      ⟨ramp.cfg.base + off, 32, .write 0xFFFFFFFF#32⟩ [] := by decide

/-- An access below the block and one above it. -/
theorem witness_StepStopsOnlyOutsideTheBlock_accesses :
    let s := State.resetFor { Config.tc1 with base := 128 }
    (facing ⟨127, 32, .read⟩ s).AboutToAccess ⟨127, 32, .read⟩ [] ∧ 127 < s.cfg.base ∧
    (facing ⟨256, 32, .write 1#32⟩ s).AboutToAccess ⟨256, 32, .write 1#32⟩ [] ∧
    s.cfg.base + 0x80 ≤ 256 := by decide

theorem witness_StepStopsOnlyOutsideTheBlock :
    (∃ t, step State.reset = .next t) ∧
    step (facing ⟨0x80, 32, .read⟩ State.reset) = .fault .outsideBlock := ⟨⟨_, rfl⟩, rfl⟩

theorem witness_CommandsKeepHostRegisters : ∃ t, exec .fade State.reset = .next t := ⟨_, rfl⟩

theorem witness_StateIsWrittenOnlyByItsCommands :
    (∃ t, exec .clear (full Config.tc1 1#8 0#32) = .next t ∧ t.surf ≠ (full Config.tc1 1#8 0#32).surf) ∧
    (∃ t, exec .batch ramp = .next t ∧ t.batch ≠ ramp.batch ∧ t.nb ≠ ramp.nb) ∧
    (∃ t, exec (.glyph 0x30) (full Config.tc1 1#8 0#32) = .next t ∧ t.resW ≠ 0#16 ∧ t.gfound ≠ false) ∧
    (∃ t, exec (.madd 0x30) State.reset = .next t ∧ t.measW ≠ State.reset.measW) ∧
    (∃ t, exec .send { ramp with port := [some .fail] } = .next t ∧ t.xferFail ≠ ramp.xferFail ∧
      t.displayLog ≠ ramp.displayLog) :=
  ⟨⟨_, rfl, by decide⟩, ⟨_, rfl, by decide⟩, ⟨_, rfl, by decide⟩, ⟨_, rfl, by decide⟩, ⟨_, rfl, by decide⟩⟩

theorem witness_ResetAtAnyStep : State.resetAsserted { ramp with resetPin := [true] } = true := by decide

theorem witness_ResetMeetsInvariant : Config.tc1.wf = true ∧ Config.tc2.wf = true := by decide

/-- A state in the middle of a pass meets the invariant. -/
theorem ramp_inv : ramp.Inv where
  cfg_wf := by decide
  surf_wf := Memory.wf_of_rising (by decide)
  surf_inside := by decide
  batch_wf := Memory.wf_of_rising (by decide)
  batch_inside := by decide
  batch_filled := by decide
  ptr_eq := by decide
  col_eq := by decide
  idle_nb := by decide
  streaming_nb := by decide
  nb_valid := by decide
  no_fault_clean := by decide
  fault_listed := by decide
  hold_ok := trivial

/-- A FRAME that holds at its first Data event meets the invariant. -/
def heldFrame : State := { ramp with hold := some (.frameData false), port := [some .ok] }

theorem heldFrame_inv : heldFrame.Inv where
  cfg_wf := by decide
  surf_wf := Memory.wf_of_rising (by decide)
  surf_inside := by decide
  batch_wf := Memory.wf_of_rising (by decide)
  batch_inside := by decide
  batch_filled := by decide
  ptr_eq := by decide
  col_eq := by decide
  idle_nb := by decide
  streaming_nb := by decide
  nb_valid := by decide
  no_fault_clean := by decide
  fault_listed := by decide
  hold_ok := ⟨rfl, rfl, by decide⟩

theorem witness_StepKeepsInvariant :
    (ramp.Inv ∧ ∃ t, step ramp = .next t) ∧ (heldFrame.Inv ∧ ∃ t, step heldFrame = .next t) :=
  ⟨⟨ramp_inv, _, rfl⟩, ⟨heldFrame_inv, _, rfl⟩⟩

theorem witness_ConfigurationNeverChanges : ∃ t, step (facingWord 0x31000000#32 ramp) = .next t := ⟨_, rfl⟩

theorem witness_FrameIsWholeChunks : Config.tc1.wf = true ∧ Config.tc1.ss = 1 ∧ Config.tc2.wf = true ∧
    Config.tc2.ss = 2 := by decide

theorem witness_PixelWriteChangesOnePixel :
    State.reset.cfg.surfWidth % 2 = 0 ∧ 7 < State.reset.cfg.surfWidth := by decide

theorem witness_surface_commands :
    State.reset.fault = false ∧ State.reset.st = .idle ∧ ramp.fault = false ∧ ramp.st = .streaming := by decide

theorem witness_MisplacedSpritesFault :
    State.reset.Composing ∧ State.reset.cfg.spriteCount ≤ 3 ∧
    State.SpriteMisplaced { State.reset with argXY := 6#32 } ⟨4#16, 2#16, 0#16⟩ 1 ∧
    State.SpriteMisplaced { State.reset with argXY := 1#32 } ⟨4#16, 2#16, 0#16⟩ 1 ∧
    State.SpriteMisplaced { State.reset with argXY := 0xFFFE#32 } ⟨4#16, 2#16, 0#16⟩ 1 ∧
    State.SpriteMisplaced { State.reset with argXY := 2#32 } ⟨3#16, 1#16, 4#16⟩ 2 := by decide

theorem witness_sprites_1x :
    let s := { State.reset with argXY := 4#32 }
    s.Composing ∧ s.cfg.sprites[0]? = some ⟨4#16, 2#16, 0#16⟩ ∧ ¬ s.SpriteMisplaced ⟨4#16, 2#16, 0#16⟩ 1 ∧
    s.drawnRow 1 1 = true := by decide

theorem witness_sprites_2x :
    State.reset.Composing ∧ State.reset.cfg.sprites[1]? = some ⟨3#16, 1#16, 4#16⟩ ∧
    ¬ State.reset.SpriteMisplaced ⟨3#16, 1#16, 4#16⟩ 2 ∧ State.reset.drawnRow 2 0 = true := by decide

theorem witness_SpriteStoresStayInside :
    let s := { State.reset with argXY := 0x00060000#32 }
    s.cfg.wf = true ∧ ¬ s.SpriteMisplaced ⟨3#16, 1#16, 4#16⟩ 2 ∧ s.drawnRow 2 0 = true := by decide

theorem witness_GlyphDrawsInk :
    State.reset.cfg.wf = true ∧ State.reset.fault = false ∧ ramp.st = .streaming ∧
    0x2F < State.reset.cfg.firstCode ∧ State.reset.cfg.lastCode < 0x32 ∧
    State.reset.cfg.glyphs[0x30 - 0x30]? = some ⟨4#16, 5#16, 0#16⟩ ∧
    State.GlyphFits { State.reset with argXY := 0x00030004#32 } ⟨4#16, 5#16, 0#16⟩ ∧
    ¬ State.GlyphFits { State.reset with argXY := 5#32 } ⟨4#16, 5#16, 0#16⟩ := by decide

theorem witness_GlyphTwiceIsGlyphOnce :
    ∃ t u, State.reset.cfg.wf = true ∧ exec (.glyph 0x30) State.reset = .next t ∧
      exec (.glyph 0x30) t = .next u := ⟨_, _, by decide, rfl, rfl⟩

theorem witness_MclrClearsMeasurement : State.reset.fault = false ∧ ramp.fault = false := by decide

theorem witness_MaddAccumulates : ramp.fault = false ∧ ramp.cfg.wf = true ∧ ramp.cfg.firstCode ≤ 0x31 ∧
    0x31 ≤ ramp.cfg.lastCode ∧ ramp.cfg.lastCode < 0x32 ∧ 0x2F < ramp.cfg.firstCode := by decide

theorem witness_MeasuringAText : State.reset.fault = false ∧
    ∀ p ∈ [((0x30, ⟨4#16, 5#16, 0#16⟩) : Nat × Descriptor), (0x31, ⟨3#16, 5#16, 20#16⟩)],
      glyphLookup State.reset.cfg p.1 = some p.2 := by decide

theorem witness_BatchEncodesTheNextPixels : ramp.Inv ∧ ramp.fault = false ∧ ramp.st = .streaming :=
  ⟨ramp_inv, rfl, rfl⟩

/-- A state after a whole pass on TC1. -/
def finished : State := { ramp with st := .idle, nb := 8#16, ptr := 32#24 }

theorem finished_inv : finished.Inv where
  cfg_wf := by decide
  surf_wf := Memory.wf_of_rising (by decide)
  surf_inside := by decide
  batch_wf := Memory.wf_of_rising (by decide)
  batch_inside := by decide
  batch_filled := by decide
  ptr_eq := by decide
  col_eq := by decide
  idle_nb := by decide
  streaming_nb := by decide
  nb_valid := by decide
  no_fault_clean := by decide
  fault_listed := by decide
  hold_ok := trivial

theorem witness_CursorStaysInside :
    (ramp.Inv ∧ ramp.st = .streaming) ∧ (finished.Inv ∧ finished.nb.toNat = finished.cfg.nbFrame) ∧
    63 < ramp.cfg.nw * ramp.cfg.nh := ⟨⟨ramp_inv, rfl⟩, ⟨finished_inv, by decide⟩, by decide⟩

/-- The last step of the loop of the last batch of a pass, at each supersampling factor. -/
theorem witness_CursorStaysInside_steps :
    (let s := { ramp with nb := 7#16, ptr := 28#24 }
     s.cfg.wf = true ∧ s.nb.toNat < s.cfg.nbFrame ∧ s.ptr.toNat = cursorPtr s.cfg s.pixelsDone ∧
     s.col.toNat = s.pixelsDone % s.cfg.nw ∧ 3 < batchSteps s.cfg) ∧
    (pass2.cfg.wf = true ∧ pass2.nb.toNat < pass2.cfg.nbFrame ∧
     pass2.ptr.toNat = cursorPtr pass2.cfg pass2.pixelsDone ∧
     pass2.col.toNat = pass2.pixelsDone % pass2.cfg.nw ∧ 3 < batchSteps pass2.cfg ∧
     pass2.cfg.ss = 2) := by decide

theorem witness_SurfaceFixedWhileStreaming : ∃ t, ramp.st = .streaming ∧
    State.resetAsserted (facingWord 0x31000000#32 ramp) = false ∧
    step (facingWord 0x31000000#32 ramp) = .next t := ⟨_, rfl, rfl, rfl⟩

theorem witness_PassesBeginAndEndByTheRules :
    (∃ t, exec .begin State.reset = .next t ∧ State.reset.st = .idle ∧ t.st = .streaming) ∧
    (∃ t, step (facingWord 0x31000000#32 { ramp with nb := 7#16, ptr := 28#24 }) = .next t ∧ t.st = .idle) ∧
    (ramp.fault = false ∧ ramp.st = .streaming ∧ needsIdle .frame = true) :=
  ⟨⟨_, rfl, rfl, rfl⟩, ⟨_, rfl, rfl⟩, rfl, rfl, rfl⟩

theorem witness_PassesBeginAndEndByTheRules_step :
    let s := { State.reset with hold := some (.frameRow true), port := [some .ok] }
    (∃ t, step s = .next t ∧ s.st = .idle ∧ t.st = .streaming) ∧
    ∃ t, step (facingWord 0x30000000#32 State.reset) = .next t ∧ t.st = .streaming :=
  ⟨⟨_, rfl, rfl, rfl⟩, _, rfl, rfl⟩

theorem witness_SendForwardsTheBatch :
    State.reset.fault = false ∧ State.reset.batchValid = false ∧ finished.fault = false ∧
    finished.batchValid = true ∧ finished.hold = none := by decide

theorem witness_AddrSendsTheHandshake :
    let s := { State.reset with port := [some .fail, some .ok] }
    s.fault = false ∧ s.st = .idle ∧ s.hold = none ∧ s.port = [some .fail, some .ok] := by decide

theorem witness_FrameTransfersTheRaster :
    let s := { finished with port := (List.replicate 10 Answer.ok).map some }
    s.cfg.wf = true ∧ s.Composing ∧ s.hold = none ∧ (List.replicate 10 Answer.ok).length = s.cfg.nbFrame + 2 ∧
    s.port = (List.replicate 10 Answer.ok).map some ++ [] := by decide

/-- One `fail` among the answers, and the last answer. -/
theorem witness_FrameEqualsItsCommandSequence :
    let answers := Answer.fail :: List.replicate 9 Answer.ok
    let s := { finished with port := answers.map some ++ [none] }
    s.cfg.wf = true ∧ s.Composing ∧ s.hold = none ∧ answers.length = s.cfg.nbFrame + 2 ∧
    s.port = answers.map some ++ [none] := by decide

theorem witness_SilentPortHoldsTheBlock :
    let s := { ramp with hold := some .send, port := [none], bus := [cmdWrite Config.tc1 0x21000000#32] }
    s.hold = some .send ∧ s.resetAsserted = false ∧ s.port = none :: [] := by decide

theorem witness_SilentPortHoldsTheBlock_starts :
    finished.port = [] ∧ finished.fault = false ∧ firstFault finished .send = none ∧
    firstFault finished .addr = none ∧ firstFault finished .frame = none := by decide

theorem witness_SilenceOnlyDelays :
    (pump ([Answer.ok].map some) { State.reset with hold := some .addrColumn }).hold ≠ none := by decide

theorem witness_DisplayLogOnlyGrows :
    ∃ t, step heldFrame = .next t ∧ t.displayLog ≠ heldFrame.displayLog := ⟨_, rfl, by decide⟩

theorem witness_FadesReachZeroAfterNibbleValue : State.Composing State.reset := by decide

end Sys2Proof.Tests
end

/-! SUPPORT. The state after reset (spec/10_state.md R48): what a byte of the surface or of the batch
buffer reads, the constant registers, and the obligation about reset values. -/

namespace Sys2Proof.Machine

open Sys2Proof

/-! ### Memories and STATUS after reset -/

/-- After reset no surface byte is listed, so each one is its free value (R20, R48). -/
@[simp] theorem surfByte_resetFor (c : Config) (i : Nat) :
    (State.resetFor c).surfByte i = Config.powerOnSurf 0 i := by
  simp only [State.surfByte, State.resetFor, Memory.read_nil, Option.getD_none]

/-- After reset no batch byte is listed, so each one is its free value (R24, R48). -/
@[simp] theorem batchByte_resetFor (c : Config) (i : Nat) :
    (State.resetFor c).batchByte i = Config.powerOnBatch 0 i := by
  simp only [State.batchByte, State.resetFor, Memory.read_nil, Option.getD_none]

/-- After reset every field of STATUS is 0 (R35, R48). -/
@[simp] theorem statusWord_resetFor (c : Config) : (State.resetFor c).statusWord = 0#32 := by
  simp only [State.statusWord, State.resetFor, ScanState.streamingFlag]
  decide

/-! ### What the constant registers read, in every state -/

theorem readReg_id (s : State) : s.readReg .id = some 0x50464231#32 := rfl

theorem readReg_config (s : State) :
    s.readReg .config =
      some (BitVec.ofNat 16 (s.cfg.spriteCount - 1) ++ BitVec.ofNat 16 s.cfg.ss) := rfl

theorem readReg_dims (s : State) :
    s.readReg .dims = some (BitVec.ofNat 16 s.cfg.nh ++ BitVec.ofNat 16 s.cfg.nw) := rfl

theorem readReg_chunk (s : State) :
    s.readReg .chunk = some (BitVec.ofNat 16 s.cfg.nbFrame ++ BitVec.ofNat 16 s.cfg.chunkBytes) := rfl

theorem readReg_grange (s : State) :
    s.readReg .grange =
      some (BitVec.ofNat 16 s.cfg.lastCode ++ BitVec.ofNat 16 s.cfg.firstCode) := rfl

theorem readReg_status (s : State) : s.readReg .status = some s.statusWord := rfl

/-! ### The obligation -/

/-- Settles O18: the registers by the definition of the reset state, the bytes because nothing has been
written, STATUS because its fields are 0, and the other constant registers as in every state. -/
theorem resetValues : Obligations.ResetValues := by
  unfold Obligations.ResetValues
  intro c
  have hstatus : (State.resetFor c).readReg .status = some 0#32 := by
    rw [readReg_status, statusWord_resetFor]
  refine ⟨surfByte_resetFor c, batchByte_resetFor c,
    rfl, rfl, rfl, rfl, rfl, -- ST, PTR, COL, NB, BATCH_VALID
    rfl, rfl, rfl, rfl, rfl, -- RES_W, RES_H, GFOUND, MEAS_W, MEAS_H
    rfl, rfl, rfl, rfl, -- FAULT, FAULT_CODE, FAULT_INFO, XFER_FAIL
    rfl, rfl, rfl, rfl, -- ARG_XY, SURF_ADDR, BATCH_ADDR, the configuration
    hstatus, readReg_id _, readReg_config _, readReg_dims _, readReg_chunk _, readReg_grange _⟩

end Sys2Proof.Machine

/-! SUPPORT. The host's accesses to the register block (spec/20_memory.md R50 to R59): which register an
offset reaches, what a legal read answers, which accesses are refused and what a refused access leaves;
and the obligations about illegal accesses and the data ports. -/

namespace Sys2Proof.Machine

open Sys2Proof

/-! ### Registers and their offsets (10_state section 3) -/

@[simp] theorem regAt_offset (r : Reg) : regAt r.offset = some r := by cases r <;> rfl

theorem offset_of_regAt {off : Nat} {r : Reg} (h : regAt off = some r) : r.offset = off := by
  unfold regAt at h
  split at h <;> cases h <;> rfl

theorem Reg.offset_mod_four (r : Reg) : r.offset % 4 = 0 := by cases r <;> rfl

theorem Reg.offset_lt (r : Reg) : r.offset < 0x44 := by cases r <;> decide

/-- An access reaches a register exactly when it is 32 bits wide and at the register's offset. -/
theorem accessedReg_eq_some_iff {off bits : Nat} {r : Reg} :
    accessedReg off bits = some r ↔ bits = 32 ∧ r.offset = off := by
  constructor
  · intro h
    simp only [accessedReg, Option.ite_none_right_eq_some] at h
    exact ⟨h.1, offset_of_regAt h.2⟩
  · rintro ⟨rfl, rfl⟩
    simp [accessedReg]

theorem accessedReg_offset (r : Reg) : accessedReg r.offset 32 = some r :=
  accessedReg_eq_some_iff.2 ⟨rfl, rfl⟩

/-- An access at a register's offset reaches no other register. -/
theorem eq_of_accessedReg_offset {r q : Reg} {bits : Nat} (h : accessedReg q.offset bits = some r) :
    r = q := by
  have hoff : r.offset = q.offset := (accessedReg_eq_some_iff.1 h).2
  have hreg : some r = some q := by rw [← regAt_offset r, hoff, regAt_offset]
  exact Option.some.inj hreg

/-- R53 (a), (d): another width, another alignment and a reserved offset reach no register. -/
theorem accessedReg_eq_none {off bits : Nat} (h : bits ≠ 32 ∨ off % 4 ≠ 0 ∨ 0x44 ≤ off) :
    accessedReg off bits = none := by
  refine Option.eq_none_iff_forall_ne_some.2 fun r hr => ?_
  obtain ⟨hbits, hoff⟩ := accessedReg_eq_some_iff.1 hr
  have hmod := r.offset_mod_four
  have hlt := r.offset_lt
  omega

/-! ### What the data ports and the read-only registers answer -/

/-- Taking the access off the bus changes no register. -/
@[simp] theorem readReg_taken (s : State) (rest : List HostAccess) (r : Reg) :
    (s.taken rest).readReg r = s.readReg r := by cases r <;> rfl

theorem readReg_surfData_inside {s : State} (h : s.surfAddr.toNat < s.cfg.surfBytes) :
    s.readReg .surfData = some (BitVec.ofNat 32 (s.surfByte s.surfAddr.toNat).toNat) := by
  simp [State.readReg, h]

theorem readReg_surfData_outside {s : State} (h : s.cfg.surfBytes ≤ s.surfAddr.toNat) :
    s.readReg .surfData = none := by
  simp [State.readReg, h]

theorem readReg_batchData_inside {s : State} (h : s.batchAddr.toNat < s.cfg.chunkBytes) :
    s.readReg .batchData = some (BitVec.ofNat 32 (s.batchByte s.batchAddr.toNat).toNat) := by
  simp [State.readReg, h]

theorem readReg_batchData_outside {s : State} (h : s.cfg.chunkBytes ≤ s.batchAddr.toNat) :
    s.readReg .batchData = none := by
  simp [State.readReg, h]

/-- The offsets of the read-only registers (10_state section 3). -/
abbrev readOnlyOffsets : List Nat :=
  [0x00, 0x04, 0x08, 0x0C, 0x10, 0x14, 0x20, 0x24, 0x28, 0x2C, 0x30, 0x38, 0x40]

/-- R53 (b): no write of a read-only register is stored, and CMD is not one of them. -/
theorem writeReg_readOnly (s : State) (v : Word) {r : Reg}
    (h : r.offset ∈ readOnlyOffsets) :
    r ≠ .cmd ∧ s.writeReg v r = none := by
  cases r
  case cmd | argXY | surfAddr | batchAddr => simp [Reg.offset] at h
  all_goals exact ⟨nofun, rfl⟩

/-! ### Legal reads and refused accesses -/

/-- A legal read answers the register's value and changes nothing else (R54). -/
theorem hostAccess_of_read {s : State} {r : Reg} {v : Word} (h : s.readReg r = some v) :
    hostAccess ⟨s.cfg.base + r.offset, 32, .read⟩ s = .next (s.reply v) := by
  have hoff : r.offset < 0x80 := r.offset_lt.trans (by decide)
  simp [hostAccess, blockOffset_base, hoff, accessedReg_offset, h]

/-- A step that performs a legal read. -/
theorem step_of_read {s : State} {r : Reg} {rest : List HostAccess} {v : Word}
    (ha : s.AboutToAccess ⟨s.cfg.base + r.offset, 32, .read⟩ rest) (h : s.readReg r = some v) :
    step s = .next ((s.taken rest).reply v) := by
  rw [← readReg_taken s rest] at h
  exact (step_of_access ha).trans (hostAccess_of_read h)

/-- The accesses inside the block that no register answers: whatever register is reached, a read of it
has no value, or it takes no write. -/
def State.Refuses (s : State) (off bits : Nat) : AccessKind → Prop
  | .read => ∀ r, accessedReg off bits = some r → s.readReg r = none
  | .write v => ∀ r, accessedReg off bits = some r → r ≠ .cmd ∧ s.writeReg v r = none

/-- A refused access is an illegal access (R53). -/
theorem hostAccess_of_refuses {s : State} {off bits : Nat} {kind : AccessKind} (hoff : off < 0x80)
    (h : s.Refuses off bits kind) :
    hostAccess ⟨s.cfg.base + off, bits, kind⟩ s = .next (badAccess s off kind) := by
  cases hr : accessedReg off bits with
  | none => simp [hostAccess, blockOffset_base, hoff, hr]
  | some r =>
    cases kind with
    | read => simp [hostAccess, blockOffset_base, hoff, hr, h r hr]
    | write v =>
      obtain ⟨hcmd, hnone⟩ := h r hr
      simp [hostAccess, blockOffset_base, hoff, hr, hnone]

/-- An access that reaches no register is refused. -/
theorem refuses_of_no_register (s : State) {off bits : Nat} (h : accessedReg off bits = none)
    (kind : AccessKind) : s.Refuses off bits kind := by
  cases kind <;> simp [State.Refuses, h]

/-- A read at a register that has no value is refused, whatever its width. -/
theorem refuses_read {s : State} {q : Reg} (h : s.readReg q = none) (bits : Nat) :
    s.Refuses q.offset bits .read := by
  intro r hr
  rw [eq_of_accessedReg_offset hr, h]

/-- A write at a read-only register is refused, whatever its width. -/
theorem refuses_write_readOnly (s : State) {off : Nat} (bits : Nat) (v : Word)
    (h : off ∈ readOnlyOffsets) : s.Refuses off bits (.write v) := by
  intro r hr
  obtain ⟨-, rfl⟩ := accessedReg_eq_some_iff.1 hr
  exact writeReg_readOnly s v h

/-! ### What an illegal access leaves -/

/-- A word put together from 24 high bits and a byte, as a number. -/
theorem append_ofNat_eq_ofNat (hi : BitVec 24) {n : Nat} (h : n < 2 ^ 8) :
    hi ++ BitVec.ofNat 8 n = BitVec.ofNat 32 (2 ^ 8 * hi.toNat + n) := by
  apply BitVec.eq_of_toNat_eq
  rw [BitVec.toNat_append, BitVec.toNat_ofNat, Nat.mod_eq_of_lt h, Nat.shiftLeft_eq, Nat.mul_comm,
    ← Nat.two_pow_add_eq_or_of_lt h, BitVec.toNat_ofNat, Nat.mod_eq_of_lt (by omega)]

/-- FAULT_INFO of an illegal access as a number: the direction in bit 16, the offset below it (R223). -/
theorem accessInfo_eq_ofNat {off : Nat} (h : off < 0x80) (kind : AccessKind) :
    accessInfo off kind = BitVec.ofNat 32 ((if kind = .read then 0 else 0x10000) + off) := by
  cases kind with
  | read =>
    rw [if_pos rfl]
    exact append_ofNat_eq_ofNat (n := off) (0#15 ++ 0#1 ++ 0#8) (by omega)
  | write v =>
    rw [if_neg nofun]
    exact append_ofNat_eq_ofNat (n := off) (0#15 ++ 1#1 ++ 0#8) (by omega)

/-- The state an illegal access leaves (R53): the fault, unless there was one, and 0 for a read. -/
theorem badAccess_eq (s : State) {off : Nat} (hoff : off < 0x80) (kind : AccessKind) :
    badAccess s off kind =
      let u := if s.fault then s
        else s.faulted 0x08#8 (BitVec.ofNat 32 ((if kind = .read then 0 else 0x10000) + off))
      if kind = .read then { u with reads := u.reads ++ [0#32] } else u := by
  have hraise : s.raiseFault .badAccess (accessInfo off kind) = if s.fault then s
      else s.faulted 0x08#8 (BitVec.ofNat 32 ((if kind = .read then 0 else 0x10000) + off)) := by
    rw [← accessInfo_eq_ofNat hoff kind]
    rfl
  simp only [badAccess, hraise]
  cases kind <;> rfl

/-- A step that performs a refused access. -/
theorem step_of_refuses {s : State} {off bits : Nat} {kind : AccessKind} {rest : List HostAccess}
    (hoff : off < 0x80) (ha : s.AboutToAccess ⟨s.cfg.base + off, bits, kind⟩ rest)
    (h : (s.taken rest).Refuses off bits kind) :
    step s = .next (badAccess (s.taken rest) off kind) :=
  (step_of_access ha).trans (hostAccess_of_refuses hoff h)

/-- A step that performs a read of a register without a value: BAD_ACCESS with the register's offset,
and only the answer 0 while FAULT is 1. -/
theorem step_of_refused_read {s : State} {r : Reg} {rest : List HostAccess}
    (ha : s.AboutToAccess ⟨s.cfg.base + r.offset, 32, .read⟩ rest) (h : s.readReg r = none) :
    (s.fault = false → step s = .next { (s.taken rest).faulted 0x08#8 (BitVec.ofNat 32 r.offset) with
      reads := s.reads ++ [0#32] }) ∧
    (s.fault = true → step s = .next { s.taken rest with reads := s.reads ++ [0#32] }) := by
  have hoff : r.offset < 0x80 := r.offset_lt.trans (by decide)
  rw [← readReg_taken s rest] at h
  rw [step_of_refuses hoff ha (refuses_read h 32), badAccess_eq _ hoff]
  constructor <;> intro hfault <;> simp [hfault]

/-! ### The obligations -/

/-- Settles O11: each of R53's clauses is an access the block refuses, and a refused access is
`badAccess`. -/
theorem illegalAccessFaults : Obligations.IllegalAccessFaults := by
  unfold Obligations.IllegalAccessFaults
  intro s off bits kind rest hoff ha hill
  have hrefuses : (s.taken rest).Refuses off bits kind := by
    obtain hbits | hmod | hreserved | ⟨hkind, hreadOnly⟩ | ⟨rfl, rfl⟩ | ⟨rfl, rfl, hsurf⟩ |
      ⟨rfl, rfl, hbatch⟩ := hill
    · exact refuses_of_no_register _ (accessedReg_eq_none (.inl hbits)) kind
    · exact refuses_of_no_register _ (accessedReg_eq_none (.inr (.inl hmod))) kind
    · exact refuses_of_no_register _ (accessedReg_eq_none (.inr (.inr hreserved))) kind
    · cases kind with
      | read => exact absurd rfl hkind
      | write v => exact refuses_write_readOnly _ bits v hreadOnly
    · exact refuses_read (q := .cmd) rfl bits
    · exact refuses_read (q := .surfData) (readReg_surfData_outside hsurf) bits
    · exact refuses_read (q := .batchData) (readReg_batchData_outside hbatch) bits
  rw [step_of_refuses hoff ha hrefuses, badAccess_eq _ hoff]
  rfl

/-- Settles O13: in range the read is legal, and out of range it is refused, in either
fault state. -/
theorem dataPortsReadInRange : Obligations.DataPortsReadInRange := by
  unfold Obligations.DataPortsReadInRange
  intro s rest
  refine ⟨fun ha => ⟨fun hin => ?_, fun hout => ?_, fun hout => ?_⟩,
    fun ha => ⟨fun hin => ?_, fun hout => ?_, fun hout => ?_⟩⟩
  · exact step_of_read (r := .surfData) ha (readReg_surfData_inside hin)
  · exact (step_of_refused_read (r := .surfData) ha (readReg_surfData_outside hout)).1
  · exact (step_of_refused_read (r := .surfData) ha (readReg_surfData_outside hout)).2
  · exact step_of_read (r := .batchData) ha (readReg_batchData_inside hin)
  · exact (step_of_refused_read (r := .batchData) ha (readReg_batchData_outside hout)).1
  · exact (step_of_refused_read (r := .batchData) ha (readReg_batchData_outside hout)).2

end Sys2Proof.Machine

/-! SUPPORT. The table of R85 against the decoder (spec/30_encoding.md R82, R85, R86): which words a row
matches, which words decode, what a CMD write of a word does; and the obligation about illegal words. -/

namespace Sys2Proof.Machine

open Sys2Proof

/-! ### Words and their fields (R81) -/

/-- Two words are one exactly when their three fields agree. -/
theorem word_eq_iff_fields {v w : Word} :
    v = w ↔ opcField v = opcField w ∧ rsvField v = rsvField w ∧ immField v = immField w := by
  constructor
  · rintro rfl
    exact ⟨rfl, rfl, rfl⟩
  · rintro ⟨hopc, hrsv, himm⟩
    rw [← word_fields v, ← word_fields w, hopc, hrsv, himm]

theorem opcField_and (v w : Word) : opcField (v &&& w) = opcField v &&& opcField w :=
  BitVec.extractLsb'_and

theorem rsvField_and (v w : Word) : rsvField (v &&& w) = rsvField v &&& rsvField w :=
  BitVec.extractLsb'_and

theorem immField_and (v w : Word) : immField (v &&& w) = immField v &&& immField w :=
  BitVec.extractLsb'_and

/-! ### The two kinds of rows (R82) -/

/-- The row of a format N command: all of the word is fixed. -/
def rowN (opc : BitVec 8) : Word × Word := (opc ++ 0#24, 0xFFFFFFFF#32)

/-- The row of a format I command: OPC and RSV are fixed. -/
def rowI (opc : BitVec 8) : Word × Word := (opc ++ 0#24, 0xFFFF0000#32)

theorem fields_of_opcode (opc : BitVec 8) :
    opcField (opc ++ 0#24) = opc ∧ rsvField (opc ++ 0#24) = 0#8 ∧ immField (opc ++ 0#24) = 0#16 := by
  revert opc; decide

theorem matches_rowN_iff {w : Word} {opc : BitVec 8} :
    w &&& (rowN opc).2 = (rowN opc).1 ↔ opcField w = opc ∧ rsvField w = 0#8 ∧ immField w = 0#16 := by
  obtain ⟨hopc, hrsv, himm⟩ := fields_of_opcode opc
  have hmask : w &&& 0xFFFFFFFF#32 = w := BitVec.and_allOnes
  simp only [rowN, hmask]
  rw [word_eq_iff_fields, hopc, hrsv, himm]

theorem matches_rowI_iff {w : Word} {opc : BitVec 8} :
    w &&& (rowI opc).2 = (rowI opc).1 ↔ opcField w = opc ∧ rsvField w = 0#8 := by
  obtain ⟨hopc, hrsv, himm⟩ := fields_of_opcode opc
  have hopcMask : opcField w &&& opcField 0xFFFF0000#32 = opcField w := BitVec.and_allOnes
  have hrsvMask : rsvField w &&& rsvField 0xFFFF0000#32 = rsvField w := BitVec.and_allOnes
  have himmMask : immField w &&& immField 0xFFFF0000#32 = 0#16 := BitVec.and_zero
  simp only [rowI]
  rw [word_eq_iff_fields, opcField_and, rsvField_and, immField_and, hopcMask, hrsvMask, himmMask, hopc,
    hrsv, himm]
  simp

/-! ### The decoder's opcodes are the table's (R85, R88) -/

/-- A row of the table is the row of an opcode, in one of the two formats. -/
theorem eq_rowN_or_rowI {row : Word × Word} (h : row ∈ commandTable) :
    ∃ opc, row = rowN opc ∨ row = rowI opc := by
  have hall : commandTable.all fun row => row = rowN (opcField row.1) ∨ row = rowI (opcField row.1) := by
    decide
  exact ⟨_, of_decide_eq_true (List.all_eq_true.1 hall row h)⟩

/-- No two rows of the table have one opcode. -/
theorem opcodes_nodup : (commandTable.map fun row => opcField row.1).Nodup := by decide

/-- The opcodes of format N are those of the table's format N rows. -/
theorem formatN_isSome_iff {opc : BitVec 8} : (formatN opc).isSome ↔ rowN opc ∈ commandTable := by
  revert opc; decide

/-- The opcodes of format I are those of the table's format I rows, whatever the immediate. -/
theorem formatI_isSome_iff {opc : BitVec 8} {imm : BitVec 16} :
    (formatI opc imm).isSome ↔ rowI opc ∈ commandTable := by
  have himm : (formatI opc imm).isSome = (formatI opc 0#16).isSome := by
    unfold formatI
    split <;> rfl
  rw [himm]
  clear himm
  revert opc; decide

/-- No opcode has both formats. -/
theorem formatN_eq_none_of_rowI_mem {opc : BitVec 8} (h : rowI opc ∈ commandTable) :
    formatN opc = none := by
  revert opc; decide

/-! ### Every word is one command or illegal (R86) -/

/-- A word matches a row only under its own opcode. -/
theorem opcField_of_matches {w : Word} {row : Word × Word} (hrow : row ∈ commandTable)
    (h : w &&& row.2 = row.1) : opcField row.1 = opcField w := by
  obtain ⟨opc, rfl | rfl⟩ := eq_rowN_or_rowI hrow
  · rw [(matches_rowN_iff.1 h).1]
    exact (fields_of_opcode opc).1
  · rw [(matches_rowI_iff.1 h).1]
    exact (fields_of_opcode opc).1

/-- No word matches two rows of the table. -/
theorem row_unique_of_matches {w : Word} {row other : Word × Word} (hrow : row ∈ commandTable)
    (h : w &&& row.2 = row.1) (hother : other ∈ commandTable) (h' : w &&& other.2 = other.1) :
    other = row :=
  List.inj_on_of_nodup_map opcodes_nodup hother hrow
    ((opcField_of_matches hother h').trans (opcField_of_matches hrow h).symm)

/-- A word of format N with a format N opcode is its command (R82, R88). -/
theorem decode_of_formatN {w : Word} {i : Instr} (h : formatN (opcField w) = some i)
    (hrsv : rsvField w = 0#8) (himm : immField w = 0#16) : decode w = .ok i := by
  simp [decode, h, hrsv, himm]

/-- A word of format I with a format I opcode is its command (R82, R88). -/
theorem decode_of_formatI {w : Word} {i : Instr} (hN : formatN (opcField w) = none)
    (h : formatI (opcField w) (immField w) = some i) (hrsv : rsvField w = 0#8) : decode w = .ok i := by
  simp [decode, hN, h, hrsv]

theorem decode_of_matches_row {w : Word} {row : Word × Word} (hrow : row ∈ commandTable)
    (h : w &&& row.2 = row.1) : ∃ i, decode w = .ok i := by
  obtain ⟨opc, rfl | rfl⟩ := eq_rowN_or_rowI hrow
  · obtain ⟨rfl, hrsv, himm⟩ := matches_rowN_iff.1 h
    obtain ⟨i, hi⟩ := Option.isSome_iff_exists.1 (formatN_isSome_iff.2 hrow)
    exact ⟨i, decode_of_formatN hi hrsv himm⟩
  · obtain ⟨rfl, hrsv⟩ := matches_rowI_iff.1 h
    obtain ⟨i, hi⟩ := Option.isSome_iff_exists.1 (formatI_isSome_iff.2 hrow)
    exact ⟨i, decode_of_formatI (formatN_eq_none_of_rowI_mem hrow) hi hrsv⟩

theorem matches_row_of_decode {w : Word} {i : Instr} (h : decode w = .ok i) :
    ∃ row ∈ commandTable, w &&& row.2 = row.1 := by
  obtain ⟨hi, hrsv, himm⟩ | ⟨hi, hrsv⟩ := decode_ok_cases h
  · exact ⟨_, formatN_isSome_iff.1 (Option.isSome_of_eq_some hi),
      matches_rowN_iff.2 ⟨rfl, hrsv, himm⟩⟩
  · exact ⟨_, formatI_isSome_iff.1 (Option.isSome_of_eq_some hi), matches_rowI_iff.2 ⟨rfl, hrsv⟩⟩

/-! ### What a CMD write does (R36, R86) -/

/-- A step in which the host writes a word to CMD. -/
theorem step_of_cmdWrite {s : State} {w : Word} {rest : List HostAccess}
    (ha : s.AboutToAccess (cmdWrite s.cfg w) rest) : step s = commandWrite w (s.taken rest) := by
  have hoff : blockOffset s.cfg (s.cfg.base + 0x18) = some Reg.cmd.offset :=
    blockOffset_base s.cfg (by decide)
  rw [step_of_access ha]
  simp [hostAccess, cmdWrite, hoff, accessedReg_offset]

theorem step_of_command {s : State} {w : Word} {i : Instr} {rest : List HostAccess}
    (ha : s.AboutToAccess (cmdWrite s.cfg w) rest) (h : decode w = .ok i) :
    step s = exec i (s.taken rest) := by
  simp [step_of_cmdWrite ha, commandWrite, h]

theorem step_of_illegal_word {s : State} {w : Word} {e : DecodeError} {rest : List HostAccess}
    (ha : s.AboutToAccess (cmdWrite s.cfg w) rest) (hfault : s.fault = false)
    (h : decode w = .error e) : step s = .next ((s.taken rest).faulted 0x01#8 w) := by
  have htaken : (s.taken rest).fault = false := by rw [State.taken_fault, hfault]
  simp [step_of_cmdWrite ha, commandWrite, h, raiseFault_of_clean htaken, FaultCode.bits]

/-! ### The obligation -/

/-- Settles O6: a word that no row matches does not decode, so its write faults; a word that a row
matches decodes, and its opcode tells the row from every other. -/
theorem illegalWordFaults : Obligations.IllegalWordFaults := by
  unfold Obligations.IllegalWordFaults
  intro s w rest ha hfault
  constructor
  · intro hnone
    cases hd : decode w with
    | error e => exact step_of_illegal_word ha hfault hd
    | ok i =>
      obtain ⟨row, hrow, hw⟩ := matches_row_of_decode hd
      exact absurd hw (hnone row hrow)
  · intro row hrow hw
    obtain ⟨i, hi⟩ := decode_of_matches_row hrow hw
    exact ⟨fun other hother h' => row_unique_of_matches hrow hw hother h', i, hi,
      step_of_command ha hi⟩

end Sys2Proof.Machine

/-! SUPPORT. The RGB565 codec (spec/40_codec.md R100, R101): a pixel word is its three channels, red most
significant; `pack` fills them with the top bits of its operands; and the obligation about it. -/

namespace Sys2Proof.Machine

open Sys2Proof

/-! ### A pixel word and its channels (R101) -/

@[simp] theorem redOf_append (r : BitVec 5) (g : BitVec 6) (b : BitVec 5) : redOf (r ++ g ++ b) = r :=
  (BitVec.extractLsb'_append_eq_of_le (by decide)).trans BitVec.extractLsb'_append_eq_left

@[simp] theorem greenOf_append (r : BitVec 5) (g : BitVec 6) (b : BitVec 5) :
    greenOf (r ++ g ++ b) = g :=
  (BitVec.extractLsb'_append_eq_of_le (by decide)).trans BitVec.extractLsb'_append_eq_right

@[simp] theorem blueOf_append (r : BitVec 5) (g : BitVec 6) (b : BitVec 5) :
    blueOf (r ++ g ++ b) = b :=
  BitVec.extractLsb'_append_eq_right

/-- Juxtaposed bit vectors are a number in mixed radix, the left one most significant. -/
theorem toNat_append_eq_mul_add {m n : Nat} (x : BitVec m) (y : BitVec n) :
    (x ++ y).toNat = x.toNat * 2 ^ n + y.toNat := by
  rw [BitVec.toNat_append, ← Nat.shiftLeft_add_eq_or_of_lt y.isLt, Nat.shiftLeft_eq]

theorem toNat_channels (r : BitVec 5) (g : BitVec 6) (b : BitVec 5) :
    (r ++ g ++ b).toNat = r.toNat * 2048 + g.toNat * 32 + b.toNat := by
  rw [toNat_append_eq_mul_add, toNat_append_eq_mul_add]
  omega

/-! ### The channels of a packed word (R100) -/

@[simp] theorem redOf_pack (r g b : BitVec 8) : redOf (pack r g b) = r.extractLsb' 3 5 :=
  redOf_append ..

@[simp] theorem greenOf_pack (r g b : BitVec 8) : greenOf (pack r g b) = g.extractLsb' 2 6 :=
  greenOf_append ..

@[simp] theorem blueOf_pack (r g b : BitVec 8) : blueOf (pack r g b) = b.extractLsb' 3 5 :=
  blueOf_append ..

/-- Keeping the top `m` bits of a vector truncates: it divides by the weight of the lowest bit kept. -/
theorem toNat_extractLsb'_top {w : Nat} (x : BitVec w) {s m : Nat} (hw : w = s + m) :
    (x.extractLsb' s m).toNat = x.toNat / 2 ^ s := by
  subst hw
  have hlt : x.toNat / 2 ^ s < 2 ^ m := Nat.div_lt_of_lt_mul (by rw [← Nat.pow_add]; exact x.isLt)
  rw [BitVec.extractLsb'_toNat, Nat.shiftRight_eq_div_pow, Nat.mod_eq_of_lt hlt]

/-! ### The obligation -/

/-- Settles O26: each accessor gives back the bits `pack` kept of its channel, and the word is the three
channels in their places. -/
theorem packKeepsTopBits : Obligations.PackKeepsTopBits := by
  unfold Obligations.PackKeepsTopBits
  intro r g b
  have hr : (r.extractLsb' 3 5).toNat = r.toNat / 8 := toNat_extractLsb'_top r rfl
  have hg : (g.extractLsb' 2 6).toNat = g.toNat / 4 := toNat_extractLsb'_top g rfl
  have hb : (b.extractLsb' 3 5).toNat = b.toNat / 8 := toNat_extractLsb'_top b rfl
  refine ⟨?_, ?_, ?_, ?_⟩
  · rw [pack, toNat_channels, hr, hg, hb]
  · rw [redOf_pack, hr]
  · rw [greenOf_pack, hg]
  · rw [blueOf_pack, hb]

end Sys2Proof.Machine

/-! SUPPORT. What the two formats of spec/30_encoding.md R82 say of a command's words, by format and not by
command: the words that decode to it, and the fault of a word with a reserved bit. -/

namespace Sys2Proof.Machine

open Sys2Proof

/-! ### Words of a given opcode (R81) -/

theorem opcField_formatI (opc : BitVec 8) (imm : BitVec 16) : opcField (opc ++ 0#8 ++ imm) = opc :=
  (BitVec.extractLsb'_append_eq_of_le (by decide)).trans BitVec.extractLsb'_append_eq_left

theorem rsvField_formatI (opc : BitVec 8) (imm : BitVec 16) : rsvField (opc ++ 0#8 ++ imm) = 0#8 :=
  (BitVec.extractLsb'_append_eq_of_le (by decide)).trans BitVec.extractLsb'_append_eq_right

theorem immField_formatI (opc : BitVec 8) (imm : BitVec 16) : immField (opc ++ 0#8 ++ imm) = imm :=
  BitVec.extractLsb'_append_eq_right

/-- Bits [23:0] of a word are RSV and IMM (R81). -/
theorem low24_eq_fields (w : Word) : w.extractLsb' 0 24 = rsvField w ++ immField w :=
  (BitVec.extractLsb'_append_extractLsb'_eq_extractLsb' (start₁ := 0) (len₁ := 16) (len₂ := 8) rfl).symm

/-! ### Reserved bits (R86) -/

theorem decode_reserved_of_formatN {w : Word} {i : Instr} (h : formatN (opcField w) = some i)
    (hbits : ¬ (rsvField w = 0#8 ∧ immField w = 0#16)) : decode w = .error .reservedBit := by
  simp [decode, h, hbits]

theorem decode_reserved_of_formatI {w : Word} {i : Instr} (hN : formatN (opcField w) = none)
    (h : formatI (opcField w) (immField w) = some i) (hrsv : rsvField w ≠ 0#8) :
    decode w = .error .reservedBit := by
  simp [decode, hN, h, hrsv]

/-! ### The two formats -/

/-- A command the decoder lists under a format N opcode is encoded as R82 says. -/
theorem encodedAsN_of_formatN {opc : BitVec 8} {i : Instr} (h : formatN opc = some i) :
    EncodedAsN opc i := by
  constructor
  · obtain ⟨hopc, hrsv, himm⟩ := fields_of_opcode opc
    exact decode_of_formatN (by rw [hopc, h]) hrsv himm
  · rintro s w rest ha hfault rfl hlow
    refine step_of_illegal_word ha hfault (decode_reserved_of_formatN h ?_)
    rintro ⟨hrsv, himm⟩
    rw [low24_eq_fields, hrsv, himm] at hlow
    exact hlow rfl

/-- A command the decoder lists under a format I opcode, with any IMM, is encoded as R82 says. -/
theorem encodedAsI_of_formatI {opc : BitVec 8} {command : BitVec 16 → Instr}
    (hN : formatN opc = none) (h : ∀ imm, formatI opc imm = some (command imm)) :
    EncodedAsI opc command := by
  constructor
  · intro imm
    have hopc := opcField_formatI opc imm
    refine decode_of_formatI (by rw [hopc, hN]) ?_ (rsvField_formatI opc imm)
    rw [hopc, immField_formatI, h]
  · rintro s w rest ha hfault rfl hrsv
    exact step_of_illegal_word ha hfault (decode_reserved_of_formatI hN (h _) hrsv)

end Sys2Proof.Machine

/-! SUPPORT. The surface commands CLEAR, FADE and SCROLL (spec/41_surface.md R120 to R122): each is a loop
of byte stores, no two at one address, under the PHASE check; and the obligations about them. -/

namespace Sys2Proof.Machine

open Sys2Proof

/-! ### The PHASE check (R225 check 3) -/

theorem phaseCheck_of_idle {s : State} (h : s.st = .idle) : s.phaseCheck = none := by
  simp [State.phaseCheck, h]

theorem phaseCheck_of_streaming {s : State} (h : s.st = .streaming) : s.phaseCheck = some .phase := by
  simp [State.phaseCheck, h]

theorem runCommand_phase_of_idle {s : State} (hfault : s.fault = false) (h : s.st = .idle) (i : Instr)
    (effect : State) : runCommand i s s.phaseCheck effect = .next effect := by
  rw [phaseCheck_of_idle h, runCommand_of_clear hfault]

theorem runCommand_phase_of_streaming {s : State} (hfault : s.fault = false) (h : s.st = .streaming)
    (i : Instr) (effect : State) :
    runCommand i s s.phaseCheck effect = .next (s.faulted 0x02#8 (encode i)) := by
  rw [phaseCheck_of_streaming h, runCommand_of_check hfault]
  rfl

theorem exec_clear (s : State) : exec .clear s = runCommand .clear s s.phaseCheck (clearSurface s) := rfl

theorem exec_fade (s : State) : exec .fade s = runCommand .fade s s.phaseCheck (fadeSurface s) := rfl

theorem exec_scroll (d : Int) (s : State) :
    exec (.scroll d) s = runCommand (.scroll d) s s.phaseCheck (scrollRows s (clampDelta s.cfg d)) := rfl

theorem SurfOnly.eq_with_surf {s t : State} (h : SurfOnly s t) : t = { s with surf := t.surf } := by
  obtain ⟨m, rfl⟩ := h
  rfl

theorem SurfOnly.cfg_eq {s t : State} (h : SurfOnly s t) : t.cfg = s.cfg := by
  obtain ⟨m, rfl⟩ := h
  rfl

/-- An address whose entry is as it was has its old byte. -/
theorem SurfOnly.surfByte_of_read_eq {s t : State} (h : SurfOnly s t) {i : Nat}
    (hread : t.surf.read i = s.surf.read i) : t.surfByte i = s.surfByte i := by
  obtain ⟨m, rfl⟩ := h
  simp only [State.surfByte, hread]

theorem surfByte_of_read {s : State} {i : Nat} {b : Byte} (h : s.surf.read i = some b) :
    s.surfByte i = b := by
  simp [State.surfByte, h]

/-! ### A loop of byte stores -/

section

variable {α : Type}

/-- For each `a` of a list in turn, store `f a old` at `addr a`, where `old` is the byte there. -/
def pokeEach (addr : α → Nat) (f : α → Byte → Byte) (l : List α) (s : State) : State :=
  l.foldl (fun t a => t.pokeSurf (addr a) (f a (t.surfByte (addr a)))) s

theorem pokeEach_cons (addr : α → Nat) (f : α → Byte → Byte) (a : α) (l : List α) (s : State) :
    pokeEach addr f (a :: l) s = pokeEach addr f l (s.pokeSurf (addr a) (f a (s.surfByte (addr a)))) := rfl

theorem read_pokeEach_other {addr : α → Nat} (f : α → Byte → Byte) {l : List α} (s : State)
    {j : Nat} (h : ∀ a ∈ l, j ≠ addr a) : (pokeEach addr f l s).surf.read j = s.surf.read j := by
  induction l generalizing s with
  | nil => rfl
  | cons a l ih =>
    rw [pokeEach_cons, ih _ fun b hb => h b (List.mem_cons_of_mem a hb), State.pokeSurf_surf,
      Memory.read_write_other _ _ (h a List.mem_cons_self)]

/-- Each address is written once, so its new byte is computed from its old one. -/
theorem read_pokeEach_of_mem {addr : α → Nat} (hinj : addr.Injective) (f : α → Byte → Byte)
    {l : List α} (hl : l.Nodup) (s : State) {a : α} (ha : a ∈ l) :
    (pokeEach addr f l s).surf.read (addr a) = some (f a (s.surfByte (addr a))) := by
  induction l generalizing s with
  | nil => cases ha
  | cons b l ih =>
    obtain ⟨hb, hl⟩ := List.nodup_cons.1 hl
    rw [pokeEach_cons]
    obtain rfl | ha := List.mem_cons.1 ha
    · have hrest : ∀ c ∈ l, addr a ≠ addr c := fun c hc heq => hb (hinj heq ▸ hc)
      rw [read_pokeEach_other f _ hrest, State.pokeSurf_surf, Memory.read_write_same]
    · have hne : addr a ≠ addr b := fun heq => hb (hinj heq ▸ ha)
      rw [ih hl _ ha, surfByte_pokeSurf, if_neg hne]

end

/-! ### CLEAR and FADE: every byte of the surface (R120, R121) -/

/-- Every surface byte `b` becomes `f b`. -/
def mapSurface (f : Byte → Byte) (s : State) : State :=
  pokeEach id (fun _ => f) (List.range s.cfg.surfBytes) s

theorem clearSurface_eq (s : State) : clearSurface s = mapSurface (fun _ => 0#8) s := rfl

theorem fadeSurface_eq (s : State) : fadeSurface s = mapSurface fadeByte s := rfl

theorem read_mapSurface_inside (f : Byte → Byte) (s : State) {i : Nat} (h : i < s.cfg.surfBytes) :
    (mapSurface f s).surf.read i = some (f (s.surfByte i)) :=
  read_pokeEach_of_mem Function.injective_id _ List.nodup_range s (List.mem_range.2 h)

theorem read_mapSurface_outside (f : Byte → Byte) (s : State) {i : Nat} (h : s.cfg.surfBytes ≤ i) :
    (mapSurface f s).surf.read i = s.surf.read i :=
  read_pokeEach_other _ s fun _ ha => ((List.mem_range.1 ha).trans_le h).ne'

/-- Less 1, saturating at 0, is Nat subtraction. -/
@[simp] theorem toNat_fadeNibble (n : Nibble) : (fadeNibble n).toNat = n.toNat - 1 := by
  revert n; decide

@[simp] theorem loNibble_fadeByte (b : Byte) : loNibble (fadeByte b) = fadeNibble (loNibble b) :=
  loNibble_nibbles _ _

@[simp] theorem hiNibble_fadeByte (b : Byte) : hiNibble (fadeByte b) = fadeNibble (hiNibble b) :=
  hiNibble_nibbles _ _

/-! ### Settling CLEAR and FADE -/

/-- Settles O28: the loop of R120 stores 0 at each surface address, under the PHASE check. -/
theorem clearZeroesTheSurface : Obligations.ClearZeroesTheSurface := by
  unfold Obligations.ClearZeroesTheSurface
  refine ⟨encodedAsN_of_formatN rfl, fun s hfault => ⟨fun hidle => ?_, fun hstreaming => ?_⟩⟩
  · refine ⟨(clearSurface s).surf, ?_, fun i hi => ?_, fun i hi => ?_⟩
    · rw [exec_clear, runCommand_phase_of_idle hfault hidle,
        ← (surfOnly_clearSurface s).eq_with_surf]
    · rw [clearSurface_eq, read_mapSurface_inside _ s hi]
    · rw [clearSurface_eq, read_mapSurface_outside _ s hi]
  · rw [exec_clear, runCommand_phase_of_streaming hfault hstreaming]
    rfl

/-- Settles O29: the loop of R121 replaces each surface byte once, and the two nibbles of the new byte are
those of the old one less 1. -/
theorem fadeDecrementsEveryNibble : Obligations.FadeDecrementsEveryNibble := by
  unfold Obligations.FadeDecrementsEveryNibble
  refine ⟨encodedAsN_of_formatN rfl, fun s hfault => ⟨fun hidle => ?_, fun hstreaming => ?_⟩⟩
  · refine ⟨(fadeSurface s).surf, ?_, fun i hi => ?_, fun i hi => ?_⟩
    · rw [exec_fade, runCommand_phase_of_idle hfault hidle, ← (surfOnly_fadeSurface s).eq_with_surf]
    · refine ⟨fadeByte (s.surfByte i), ?_, ?_, ?_⟩
      · rw [fadeSurface_eq, read_mapSurface_inside _ s hi]
      · rw [loNibble_fadeByte, toNat_fadeNibble]
      · rw [hiNibble_fadeByte, toNat_fadeNibble]
    · rw [fadeSurface_eq, read_mapSurface_outside _ s hi]
  · rw [exec_fade, runCommand_phase_of_streaming hfault hstreaming]
    rfl

/-! ### SCROLL: addresses by row and column -/

/-- The row of the address of column `c` in row `r`. -/
theorem row_of_address {n c : Nat} (hc : c < n) (r : Nat) : (r * n + c) / n = r := by
  rw [Nat.mul_comm, Nat.mul_add_div (Nat.zero_lt_of_lt hc), Nat.div_eq_of_lt hc, Nat.add_zero]

theorem row_address_lt {r h n c : Nat} (hr : r < h) (hc : c < n) : r * n + c < n * h :=
  calc r * n + c < (r + 1) * n := by rw [Nat.succ_mul]; omega
    _ ≤ h * n := Nat.mul_le_mul_right n hr
    _ = n * h := Nat.mul_comm h n

/-! ### SCROLL: one row (R122) -/

theorem copyRow_eq (old s : State) (r q : Nat) :
    copyRow old s r q = pokeEach (r * s.cfg.stride + ·) (fun c _ => old.surfByte (q * s.cfg.stride + c))
      (List.range s.cfg.stride) s := rfl

theorem read_copyRow_other (old : State) {s : State} {r : Nat} (q : Nat) {j : Nat}
    (h : ∀ c < s.cfg.stride, j ≠ r * s.cfg.stride + c) :
    (copyRow old s r q).surf.read j = s.surf.read j := by
  rw [copyRow_eq, read_pokeEach_other _ s fun c hc => h c (List.mem_range.1 hc)]

/-- Row `r` is the old row `q`, and every other row is as it was. -/
theorem surfByte_copyRow (old s : State) (r q : Nat) {p c : Nat} (hc : c < s.cfg.stride) :
    (copyRow old s r q).surfByte (p * s.cfg.stride + c) =
      if p = r then old.surfByte (q * s.cfg.stride + c) else s.surfByte (p * s.cfg.stride + c) := by
  split
  next hp =>
    subst hp
    rw [copyRow_eq]
    exact surfByte_of_read (read_pokeEach_of_mem (add_right_injective (p * s.cfg.stride)) _
      List.nodup_range s (List.mem_range.2 hc))
  next hp =>
    refine (surfOnly_copyRow old s r q).surfByte_of_read_eq (read_copyRow_other old q ?_)
    intro d hd heq
    exact hp (by rw [← row_of_address hc p, heq, row_of_address hd r])

/-! ### SCROLL: a block of rows (R122) -/

/-- Rows `p`, `p + 1`, … receive the `n` old rows from `q` on. -/
def copyRows (old : State) (p q n : Nat) (s : State) : State :=
  (List.range n).foldl (fun t k => copyRow old t (k + p) (k + q)) s

@[simp] theorem copyRows_zero (old : State) (p q : Nat) (s : State) : copyRows old p q 0 s = s := rfl

theorem copyRows_succ (old : State) (p q n : Nat) (s : State) :
    copyRows old p q (n + 1) s = copyRow old (copyRows old p q n s) (n + p) (n + q) := by
  simp only [copyRows, List.range_succ, List.foldl_append, List.foldl_cons, List.foldl_nil]

theorem surfOnly_copyRows (old : State) (p q n : Nat) (s : State) : SurfOnly s (copyRows old p q n s) :=
  SurfOnly.foldl (fun t _ => surfOnly_copyRow old t _ _) _ s

theorem surfByte_copyRows (old : State) (p q n : Nat) (s : State) {r c : Nat} (hc : c < s.cfg.stride) :
    (copyRows old p q n s).surfByte (r * s.cfg.stride + c) =
      if p ≤ r ∧ r < n + p then old.surfByte ((r - p + q) * s.cfg.stride + c)
      else s.surfByte (r * s.cfg.stride + c) := by
  induction n with
  | zero => rw [copyRows_zero, if_neg (by omega)]
  | succ n ih =>
    have hcfg : (copyRows old p q n s).cfg = s.cfg := (surfOnly_copyRows old p q n s).cfg_eq
    have hrow := surfByte_copyRow old (copyRows old p q n s) (n + p) (n + q) (p := r) (hcfg ▸ hc)
    rw [copyRows_succ, ← hcfg, hrow, hcfg, ih]
    by_cases hr : r = n + p
    · rw [if_pos hr, if_pos (by omega), hr, Nat.add_sub_cancel]
    · have hiff : (p ≤ r ∧ r < n + 1 + p) ↔ p ≤ r ∧ r < n + p := by omega
      simp only [hr, hiff, if_false]

/-- Rows inside the surface are stored inside the surface. -/
theorem read_copyRows_outside (old : State) {p n : Nat} (q : Nat) {s : State}
    (hrows : ∀ k < n, k + p < s.cfg.surfHeight) {j : Nat} (hj : s.cfg.surfBytes ≤ j) :
    (copyRows old p q n s).surf.read j = s.surf.read j := by
  induction n with
  | zero => rfl
  | succ n ih =>
    have hcfg : (copyRows old p q n s).cfg = s.cfg := (surfOnly_copyRows old p q n s).cfg_eq
    rw [copyRows_succ, read_copyRow_other, ih fun k hk => hrows k (Nat.lt_succ_of_lt hk)]
    rw [hcfg]
    intro c hc
    exact ((row_address_lt (hrows n n.lt_succ_self) hc).trans_le hj).ne'

/-! ### SCROLL: the three cases of the delta (R122) -/

theorem scrollRows_of_pos (s : State) {D : Int} (h : 0 < D) :
    scrollRows s D = copyRows s D.toNat 0 (s.cfg.surfHeight - D.natAbs) s := by
  simp only [scrollRows, if_pos h]
  rfl

theorem scrollRows_of_neg (s : State) {D : Int} (h : D < 0) :
    scrollRows s D = copyRows s 0 D.natAbs (s.cfg.surfHeight - D.natAbs) s := by
  simp only [scrollRows, if_neg h.not_gt, if_pos h]
  rfl

@[simp] theorem scrollRows_zero (s : State) : scrollRows s 0 = s := rfl

/-- Row `r` is the old row `r - D` where there is one, and its own old content otherwise. -/
theorem surfByte_scrollRows (s : State) (D : Int) {r c : Nat} (hr : r < s.cfg.surfHeight)
    (hc : c < s.cfg.stride) :
    (scrollRows s D).surfByte (r * s.cfg.stride + c) =
      if 0 ≤ (r : Int) - D ∧ (r : Int) - D < s.cfg.surfHeight then
        s.surfByte (((r : Int) - D).toNat * s.cfg.stride + c)
      else s.surfByte (r * s.cfg.stride + c) := by
  obtain hD | rfl | hD := lt_trichotomy D 0
  · have hrow : r - 0 + D.natAbs = ((r : Int) - D).toNat := by omega
    rw [scrollRows_of_neg s hD, surfByte_copyRows s _ _ _ s hc, hrow]
    exact if_congr (by omega) rfl rfl
  · simp
  · have hrow : r - D.toNat + 0 = ((r : Int) - D).toNat := by omega
    rw [scrollRows_of_pos s hD, surfByte_copyRows s _ _ _ s hc, hrow]
    exact if_congr (by omega) rfl rfl

theorem read_scrollRows_outside (s : State) (D : Int) {j : Nat} (hj : s.cfg.surfBytes ≤ j) :
    (scrollRows s D).surf.read j = s.surf.read j := by
  obtain hD | rfl | hD := lt_trichotomy D 0
  · rw [scrollRows_of_neg s hD, read_copyRows_outside s _ (by omega) hj]
  · rw [scrollRows_zero]
  · rw [scrollRows_of_pos s hD, read_copyRows_outside s _ (by omega) hj]

/-- Settles O31: under the PHASE check the rows move by the clamped delta; every read is of the old
surface, and the rows that receive none keep their own bytes. -/
theorem scrollMovesRows : Obligations.ScrollMovesRows := by
  unfold Obligations.ScrollMovesRows
  refine ⟨encodedAsI_of_formatI rfl fun _ => rfl, fun s d hfault =>
    ⟨fun hidle => ?_, fun hstreaming => ?_⟩⟩
  · intro H D
    have hsurf : scrollRows s D = { s with surf := (scrollRows s D).surf } :=
      (surfOnly_scrollRows s D).eq_with_surf
    refine ⟨(scrollRows s D).surf, ?_, fun hD => ?_, fun r c hr hc => ?_, fun i hi => ?_⟩
    · rw [exec_scroll, runCommand_phase_of_idle hfault hidle, ← hsurf]
      rfl
    · rw [hD, scrollRows_zero]
    · rw [← hsurf]
      exact surfByte_scrollRows s D hr hc
    · exact read_scrollRows_outside s D hi
  · rw [exec_scroll, runCommand_phase_of_streaming hfault hstreaming]

end Sys2Proof.Machine

/-! SUPPORT. The sprite commands (spec/42_compositor.md R140 to R147): the checks they share, the bytes of
a drawn source row, which no other row stores to, and the obligations about them. -/

namespace Sys2Proof.Machine

open Sys2Proof

/-! ### The checks of a sprite command (R140, R225 checks 3 to 5) -/

theorem spriteCheck_of_unknown {s : State} {k : Nat} (h : s.cfg.spriteCount ≤ k) (sc : Nat) :
    s.spriteCheck k sc = some .spriteIndex := by
  simp [State.spriteCheck, List.getElem?_eq_none h]

theorem spriteCheck_of_known {s : State} {k : Nat} {d : Descriptor} (h : s.cfg.sprites[k]? = some d)
    (sc : Nat) :
    s.spriteCheck k sc = if s.SpriteMisplaced d sc then some .spriteHBounds else none := by
  simp only [State.spriteCheck, h]
  rfl

/-- Command `i` draws sprite `k` at scale `sc`, each source row by `row`, under the checks of R225. -/
def DrawsSprite (i : Instr) (k sc : Nat) (row : Descriptor → State → Nat → State) : Prop :=
  ∀ s, exec i s = runCommand i s (s.phaseCheck.or (s.spriteCheck k sc)) (drawSprite s k sc row)

theorem drawsSprite_spr (k : Nat) : DrawsSprite (.spr k) k 1 sprRow := fun _ => rfl

theorem drawsSprite_sprb (k : Nat) : DrawsSprite (.sprb k) k 1 sprbRow := fun _ => rfl

theorem drawsSprite_spr2 (k : Nat) : DrawsSprite (.spr2 k) k 2 spr2Row := fun _ => rfl

theorem drawsSprite_sprb2 (k : Nat) : DrawsSprite (.sprb2 k) k 2 sprb2Row := fun _ => rfl

section

variable {i : Instr} {k sc : Nat} {row : Descriptor → State → Nat → State}

theorem DrawsSprite.exceptions (hi : DrawsSprite i k sc row) {s : State} (hfault : s.fault = false) :
    SpriteExceptions i s k sc := by
  refine ⟨fun hst => ?_, fun hst hk => ?_, fun hst d hk hmis => ?_⟩
  · rw [hi, phaseCheck_of_streaming hst, Option.some_or, runCommand_of_check hfault]
    rfl
  · rw [hi, phaseCheck_of_idle hst, Option.none_or, spriteCheck_of_unknown hk,
      runCommand_of_check hfault]
    rfl
  · rw [hi, phaseCheck_of_idle hst, Option.none_or, spriteCheck_of_known hk, if_pos hmis,
      runCommand_of_check hfault]
    rfl

theorem drawSprite_of_known {s : State} {d : Descriptor} (h : s.cfg.sprites[k]? = some d) :
    drawSprite s k sc row = ((List.range d.h.toNat).filter (s.drawnRow sc)).foldl (row d) s := by
  simp [drawSprite, h]

end

/-- Settles O32: the two sprite faults of R140 are exceptions all four commands share, and neither check
looks at the rows. -/
theorem misplacedSpritesFault : Obligations.MisplacedSpritesFault := by
  unfold Obligations.MisplacedSpritesFault
  rintro s k ⟨hfault, hidle⟩ p hp
  have hexc : SpriteExceptions p.1 s k p.2 := by
    simp only [List.mem_cons, List.not_mem_nil, or_false] at hp
    rcases hp with rfl | rfl | rfl | rfl
    · exact (drawsSprite_spr k).exceptions hfault
    · exact (drawsSprite_sprb k).exceptions hfault
    · exact (drawsSprite_spr2 k).exceptions hfault
    · exact (drawsSprite_sprb2 k).exceptions hfault
  obtain ⟨-, hindex, hbounds⟩ := hexc
  exact ⟨hindex hidle, hbounds hidle⟩

/-! ### One output row -/

theorem SurfOnly.dst_eq {s t : State} (h : SurfOnly s t) (r c : Nat) : t.dst r c = s.dst r c := by
  obtain ⟨m, rfl⟩ := h
  rfl

theorem SurfOnly.outRow_eq {s t : State} (h : SurfOnly s t) (sc j : Nat) :
    t.outRow sc j = s.outRow sc j := by
  obtain ⟨m, rfl⟩ := h
  rfl

/-- Stores to the surface do not move a row's addresses. -/
theorem foldl_pokeSurf_dst_eq {s t : State} {r : Nat} (h : t.dst r = s.dst r) (f : Byte → Nat → Byte)
    (l : List Nat) :
    l.foldl (fun t c => t.pokeSurf (t.dst r c) (f (t.surfByte (t.dst r c)) c)) t =
      pokeEach (s.dst r) (fun c old => f old c) l t := by
  induction l generalizing t with
  | nil => rw [pokeEach, List.foldl_nil, List.foldl_nil]
  | cons c l ih =>
    have hpoke : (t.pokeSurf (s.dst r c) (f (t.surfByte (s.dst r c)) c)).dst r = s.dst r :=
      (funext ((surfOnly_pokeSurf t _ _).dst_eq r)).trans h
    rw [List.foldl_cons, pokeEach_cons, h, ih hpoke]

theorem mapRow_eq (s : State) (r n : Nat) (f : Byte → Nat → Byte) :
    s.mapRow r n f = pokeEach (s.dst r) (fun c old => f old c) (List.range n) s := by
  rw [State.mapRow, foldl_pokeSurf_dst_eq rfl]

theorem read_mapRow_inside (s : State) (r : Nat) {n : Nat} (f : Byte → Nat → Byte) {c : Nat}
    (hc : c < n) :
    (s.mapRow r n f).surf.read (s.dst r c) = some (f (s.surfByte (s.dst r c)) c) := by
  rw [mapRow_eq]
  exact read_pokeEach_of_mem (add_right_injective _) _ List.nodup_range s (List.mem_range.2 hc)

theorem read_mapRow_other (s : State) (r : Nat) {n : Nat} (f : Byte → Nat → Byte) {i : Nat}
    (h : ∀ c < n, i ≠ s.dst r c) : (s.mapRow r n f).surf.read i = s.surf.read i := by
  rw [mapRow_eq]
  exact read_pokeEach_other _ s fun c hc => h c (List.mem_range.1 hc)

/-! ### Two output rows of one source row -/

section

variable (s : State) (r : Nat) {n : Nat} (f g : Byte → Nat → Byte)

theorem read_mapRow_mapRow_other {i : Nat} (h : ∀ b < 2, ∀ c < n, i ≠ s.dst (r + b) c) :
    ((s.mapRow r n f).mapRow (r + 1) n g).surf.read i = s.surf.read i := by
  rw [read_mapRow_other, read_mapRow_other s r f (h 0 (by decide))]
  intro c hc
  rw [(surfOnly_mapRow s r n f).dst_eq]
  exact h 1 (by decide) c hc

theorem read_mapRow_mapRow_first {c : Nat} (hc : c < n)
    (hrows : ∀ c' < n, s.dst r c ≠ s.dst (r + 1) c') :
    ((s.mapRow r n f).mapRow (r + 1) n g).surf.read (s.dst r c) =
      some (f (s.surfByte (s.dst r c)) c) := by
  rw [read_mapRow_other, read_mapRow_inside _ _ _ hc]
  intro c' hc'
  rw [(surfOnly_mapRow s r n f).dst_eq]
  exact hrows c' hc'

theorem read_mapRow_mapRow_second {c : Nat} (hc : c < n)
    (hrows : ∀ c' < n, s.dst r c' ≠ s.dst (r + 1) c) :
    ((s.mapRow r n f).mapRow (r + 1) n g).surf.read (s.dst (r + 1) c) =
      some (g (s.surfByte (s.dst (r + 1) c)) c) := by
  have honly := surfOnly_mapRow s r n f
  have hold := honly.surfByte_of_read_eq
    (read_mapRow_other s r f fun c' hc' => (hrows c' hc').symm)
  have hread := read_mapRow_inside (s.mapRow r n f) (r + 1) g hc
  rwa [honly.dst_eq, hold] at hread

end

/-! ### The addresses of a source row (R141, R142) -/

/-- Source row `j` of a sprite stores to address `i`. -/
def State.InSpriteRow (s : State) (d : Descriptor) (sc j i : Nat) : Prop :=
  ∃ b < sc, ∃ c < sc * d.rowBytes, i = s.dst (s.outRow sc j + b) c

theorem SurfOnly.inSpriteRow_iff {s t : State} (h : SurfOnly s t) {d : Descriptor} {sc j i : Nat} :
    t.InSpriteRow d sc j i ↔ s.InSpriteRow d sc j i := by
  obtain ⟨m, rfl⟩ := h
  rfl

theorem not_inSpriteRow_iff {s : State} {d : Descriptor} {sc j i : Nat} :
    ¬ s.InSpriteRow d sc j i ↔ ∀ b < sc, ∀ c < sc * d.rowBytes, i ≠ s.dst (s.outRow sc j + b) c := by
  simp only [State.InSpriteRow, not_exists, not_and, ne_eq]

/-- At scale 1 a source row is one output row. -/
theorem inSpriteRow_one_iff {s : State} {d : Descriptor} {j i : Nat} :
    s.InSpriteRow d 1 j i ↔ ∃ c < d.rowBytes, i = s.dst (s.outRow 1 j) c := by
  simp [State.InSpriteRow]

theorem not_inSpriteRow_one_iff {s : State} {d : Descriptor} {j i : Nat} :
    ¬ s.InSpriteRow d 1 j i ↔ ∀ c < d.rowBytes, i ≠ s.dst (s.outRow 1 j) c := by
  simp only [inSpriteRow_one_iff, not_exists, not_and, ne_eq]

/-- A placed sprite's columns lie inside one surface row. -/
theorem column_lt_stride {s : State} {d : Descriptor} {sc c : Nat} (hplaced : ¬ s.SpriteMisplaced d sc)
    (hc : c < sc * d.rowBytes) : s.argX.toNat / 2 + c < s.cfg.stride := by
  have hwidth : 2 * d.rowBytes * sc = 2 * (sc * d.rowBytes) := by ring
  rw [State.SpriteMisplaced, hwidth] at hplaced
  generalize sc * d.rowBytes = n at hplaced hc
  simp only [Config.stride]
  omega

theorem dst_div_stride {s : State} {r c : Nat} (hc : s.argX.toNat / 2 + c < s.cfg.stride) :
    s.dst r c / s.cfg.stride = r := by
  rw [State.dst, Nat.add_assoc, row_of_address hc]

/-- Columns of different output rows are different addresses. -/
theorem dst_ne_of_row_ne {s : State} {d : Descriptor} {sc r r' c c' : Nat}
    (hplaced : ¬ s.SpriteMisplaced d sc) (hc : c < sc * d.rowBytes) (hc' : c' < sc * d.rowBytes)
    (hr : r ≠ r') : s.dst r c ≠ s.dst r' c' := by
  intro heq
  have hrow := dst_div_stride (r := r) (column_lt_stride hplaced hc)
  rw [heq, dst_div_stride (column_lt_stride hplaced hc')] at hrow
  exact hr hrow.symm

theorem outRow_of_drawn {s : State} {sc j : Nat} (h : s.drawnRow sc j) :
    (s.outRow sc j : Int) = s.argY + sc * j := by
  simp only [State.drawnRow, Bool.and_eq_true, decide_eq_true_eq] at h
  exact Int.toNat_of_nonneg h.1

/-- No two drawn source rows share an output row. -/
theorem row_eq_of_outRow_eq {s : State} {sc j j' b b' : Nat} (hj : s.drawnRow sc j)
    (hj' : s.drawnRow sc j') (hb : b < sc) (hb' : b' < sc)
    (h : s.outRow sc j + b = s.outRow sc j' + b') : j = j' := by
  have hout := outRow_of_drawn hj
  have hout' := outRow_of_drawn hj'
  have hoffset : j * sc + b = j' * sc + b' := by
    zify
    linarith
  rw [← row_of_address hb j, hoffset, row_of_address hb']

/-- No two drawn source rows store to one address. -/
theorem row_eq_of_inSpriteRow {s : State} {d : Descriptor} {sc j j' i : Nat}
    (hplaced : ¬ s.SpriteMisplaced d sc) (hj : s.drawnRow sc j) (hj' : s.drawnRow sc j')
    (hi : s.InSpriteRow d sc j i) (hi' : s.InSpriteRow d sc j' i) : j = j' := by
  obtain ⟨b, hb, c, hc, rfl⟩ := hi
  obtain ⟨b', hb', c', hc', heq⟩ := hi'
  by_contra hne
  exact dst_ne_of_row_ne hplaced hc hc' (fun h => hne (row_eq_of_outRow_eq hj hj' hb hb' h)) heq

/-! ### A loop whose rounds store to places of their own -/

section

variable {f : State → Nat → State} {place : Nat → Nat → Prop} {l : List Nat} {s : State}

theorem read_foldl_other (honly : ∀ t j, SurfOnly t (f t j))
    (hkeeps : ∀ t, SurfOnly s t → ∀ j i, ¬ place j i → (f t j).surf.read i = t.surf.read i)
    {i : Nat} (hi : ∀ j ∈ l, ¬ place j i) {t : State} (ht : SurfOnly s t) :
    (l.foldl f t).surf.read i = t.surf.read i := by
  induction l generalizing t with
  | nil => rfl
  | cons j l ih =>
    rw [List.foldl_cons, ih (fun k hk => hi k (List.mem_cons_of_mem j hk)) (ht.trans (honly t j)),
      hkeeps t ht j i (hi j List.mem_cons_self)]

/-- The round for `j` finds the old bytes at its own places, and what it leaves there stays. -/
theorem read_foldl_own (honly : ∀ t j, SurfOnly t (f t j))
    (hkeeps : ∀ t, SurfOnly s t → ∀ j i, ¬ place j i → (f t j).surf.read i = t.surf.read i)
    (hl : l.Nodup) (hown : ∀ j ∈ l, ∀ k ∈ l, ∀ i, place j i → place k i → j = k)
    {j : Nat} (hj : j ∈ l) :
    ∃ t, SurfOnly s t ∧ (∀ i, place j i → t.surfByte i = s.surfByte i) ∧
      ∀ i, place j i → (l.foldl f s).surf.read i = (f t j).surf.read i := by
  obtain ⟨before, after, rfl⟩ := List.append_of_mem hj
  have hne : ∀ k ∈ before ++ after, j ≠ k := by
    rintro k hk rfl
    exact (List.nodup_middle.1 hl).notMem hk
  have hother : ∀ k ∈ before ++ after, ∀ i, place j i → ¬ place k i := fun k hk i hi hi' =>
    hne k hk (hown j hj k (by simp at hk ⊢; tauto) i hi hi')
  have hbefore : SurfOnly s (before.foldl f s) := SurfOnly.foldl honly before s
  refine ⟨before.foldl f s, hbefore, fun i hi => hbefore.surfByte_of_read_eq ?_, fun i hi => ?_⟩
  · exact read_foldl_other honly hkeeps
      (fun k hk => hother k (List.mem_append_left after hk) i hi) (SurfOnly.refl s)
  · rw [List.foldl_append, List.foldl_cons]
    exact read_foldl_other honly hkeeps
      (fun k hk => hother k (List.mem_append_right before hk) i hi) (hbefore.trans (honly _ j))

end

/-! ### A drawn sprite -/

/-- `row` stores a source row at scale `sc` to that row's addresses only. -/
structure StoresInRow (sc : Nat) (row : Descriptor → State → Nat → State) : Prop where
  surfOnly : ∀ d s j, SurfOnly s (row d s j)
  keeps : ∀ d s j i, ¬ s.InSpriteRow d sc j i → (row d s j).surf.read i = s.surf.read i

section

variable {i : Instr} {k sc : Nat} {row : Descriptor → State → Nat → State} {s : State}
  {d : Descriptor}

theorem exec_of_placed (hi : DrawsSprite i k sc row) (hrow : StoresInRow sc row)
    (hfault : s.fault = false) (hidle : s.st = .idle) (hk : s.cfg.sprites[k]? = some d)
    (hplaced : ¬ s.SpriteMisplaced d sc) :
    exec i s = .next { s with surf := (drawSprite s k sc row).surf } := by
  rw [hi, phaseCheck_of_idle hidle, Option.none_or, spriteCheck_of_known hk, if_neg hplaced,
    runCommand_of_clear hfault, ← (surfOnly_drawSprite hrow.surfOnly s k sc).eq_with_surf]

theorem mem_drawnRows {j : Nat} :
    j ∈ (List.range d.h.toNat).filter (s.drawnRow sc) ↔ j < d.h.toNat ∧ s.drawnRow sc j := by
  rw [List.mem_filter, List.mem_range]

theorem read_drawSprite_other (hrow : StoresInRow sc row) (hk : s.cfg.sprites[k]? = some d) {a : Nat}
    (ha : ∀ j < d.h.toNat, s.drawnRow sc j → ¬ s.InSpriteRow d sc j a) :
    (drawSprite s k sc row).surf.read a = s.surf.read a := by
  rw [drawSprite_of_known hk]
  refine read_foldl_other (place := s.InSpriteRow d sc) (hrow.surfOnly d) ?_ ?_ (SurfOnly.refl s)
  · exact fun t ht j a ha => hrow.keeps d t j a (ht.inSpriteRow_iff.not.2 ha)
  · intro j hj
    obtain ⟨hlt, hdrawn⟩ := mem_drawnRows.1 hj
    exact ha j hlt hdrawn

/-- A drawn row's bytes are those its own round stores, in a state that has the old bytes there. -/
theorem read_drawSprite_drawn (hrow : StoresInRow sc row) (hk : s.cfg.sprites[k]? = some d)
    (hplaced : ¬ s.SpriteMisplaced d sc) {j : Nat} (hj : j < d.h.toNat) (hdrawn : s.drawnRow sc j) :
    ∃ t, SurfOnly s t ∧ (∀ a, s.InSpriteRow d sc j a → t.surfByte a = s.surfByte a) ∧
      ∀ a, s.InSpriteRow d sc j a →
        (drawSprite s k sc row).surf.read a = (row d t j).surf.read a := by
  rw [drawSprite_of_known hk]
  refine read_foldl_own (hrow.surfOnly d) ?_ (List.nodup_range.filter _) ?_
    (mem_drawnRows.2 ⟨hj, hdrawn⟩)
  · exact fun t ht j a ha => hrow.keeps d t j a (ht.inSpriteRow_iff.not.2 ha)
  · intro j hj j' hj' a ha ha'
    exact row_eq_of_inSpriteRow hplaced (mem_drawnRows.1 hj).2 (mem_drawnRows.1 hj').2 ha ha'

end

/-! ### SPR and SPRB (R144, R145) -/

theorem storesInRow_sprRow : StoresInRow 1 sprRow where
  surfOnly := surfOnly_sprRow
  keeps _ s _ _ h := read_mapRow_other s _ _ (not_inSpriteRow_one_iff.1 h)

theorem storesInRow_sprbRow : StoresInRow 1 sprbRow where
  surfOnly := surfOnly_sprbRow
  keeps _ s _ _ h := read_mapRow_other s _ _ (not_inSpriteRow_one_iff.1 h)

section

variable {s : State} {k : Nat} {d : Descriptor} (hk : s.cfg.sprites[k]? = some d)
  (hplaced : ¬ s.SpriteMisplaced d 1) {j c : Nat} (hj : j < d.h.toNat) (hdrawn : s.drawnRow 1 j)
  (hc : c < d.rowBytes)

include hk hplaced hj hdrawn hc

theorem read_drawSprite_spr :
    (drawSprite s k 1 sprRow).surf.read (s.dst (s.outRow 1 j) c) = some (spriteSrc s.cfg d j c) := by
  obtain ⟨_, ⟨m, rfl⟩, -, hread⟩ := read_drawSprite_drawn storesInRow_sprRow hk hplaced hj hdrawn
  rw [hread _ (inSpriteRow_one_iff.2 ⟨c, hc, rfl⟩)]
  exact read_mapRow_inside { s with surf := m } _ _ hc

theorem read_drawSprite_sprb :
    (drawSprite s k 1 sprbRow).surf.read (s.dst (s.outRow 1 j) c) =
      some (blendByte (s.surfByte (s.dst (s.outRow 1 j) c)) (spriteSrc s.cfg d j c)) := by
  obtain ⟨_, ⟨m, rfl⟩, hold, hread⟩ := read_drawSprite_drawn storesInRow_sprbRow hk hplaced hj hdrawn
  have hmem : s.InSpriteRow d 1 j (s.dst (s.outRow 1 j) c) := inSpriteRow_one_iff.2 ⟨c, hc, rfl⟩
  rw [hread _ hmem, ← hold _ hmem]
  exact read_mapRow_inside { s with surf := m } _ _ hc

end

/-- Settles O33: each drawn row is one run of stores of its source bytes, and no other row stores there. -/
theorem sprCopiesTheSprite : Obligations.SprCopiesTheSprite := by
  unfold Obligations.SprCopiesTheSprite
  refine ⟨encodedAsI_of_formatI rfl fun _ => rfl, fun s k hfault =>
    ⟨(drawsSprite_spr k).exceptions hfault, fun d hidle hk hplaced => ⟨_,
      exec_of_placed (drawsSprite_spr k) storesInRow_sprRow hfault hidle hk hplaced, ?_, ?_⟩⟩⟩
  · exact fun j hj hdrawn c hc => read_drawSprite_spr hk hplaced hj hdrawn hc
  · exact fun i hi => read_drawSprite_other storesInRow_sprRow hk fun j hj hdrawn =>
      not_inSpriteRow_one_iff.2 (hi j hj hdrawn)

@[simp] theorem loNibble_blendByte (d s : Byte) :
    loNibble (blendByte d s) = blendNibble (loNibble d) (loNibble s) := loNibble_nibbles _ _

@[simp] theorem hiNibble_blendByte (d s : Byte) :
    hiNibble (blendByte d s) = blendNibble (hiNibble d) (hiNibble s) := hiNibble_nibbles _ _

/-- Settles O34: each byte of a drawn row is blended once, against its old content. -/
theorem sprbBlendsTheSprite : Obligations.SprbBlendsTheSprite := by
  unfold Obligations.SprbBlendsTheSprite
  refine ⟨encodedAsI_of_formatI rfl fun _ => rfl, fun s k hfault =>
    ⟨(drawsSprite_sprb k).exceptions hfault, fun d hidle hk hplaced => ⟨_,
      exec_of_placed (drawsSprite_sprb k) storesInRow_sprbRow hfault hidle hk hplaced, ?_, ?_⟩⟩⟩
  · exact fun j hj hdrawn c hc => ⟨_, read_drawSprite_sprb hk hplaced hj hdrawn hc,
      loNibble_blendByte _ _, hiNibble_blendByte _ _⟩
  · exact fun i hi => read_drawSprite_other storesInRow_sprbRow hk fun j hj hdrawn =>
      not_inSpriteRow_one_iff.2 (hi j hj hdrawn)

/-! ### SPR2 and SPRB2 (R146, R147) -/

theorem spriteEx_even (cfg : Config) (d : Descriptor) (j c : Nat) :
    spriteEx cfg d j (2 * c) = dupNibble (loNibble (spriteSrc cfg d j c)) := by
  simp [spriteEx]

theorem spriteEx_odd (cfg : Config) (d : Descriptor) (j c : Nat) :
    spriteEx cfg d j (2 * c + 1) = dupNibble (hiNibble (spriteSrc cfg d j c)) := by
  have hmod : (2 * c + 1) % 2 ≠ 0 := by omega
  have hdiv : (2 * c + 1) / 2 = c := by omega
  rw [spriteEx, if_neg hmod, hdiv]

theorem spr2Row_eq (d : Descriptor) (s : State) (j : Nat) :
    spr2Row d s j =
      (s.mapRow (s.outRow 2 j) (2 * d.rowBytes) fun _ c => spriteEx s.cfg d j c).mapRow
        (s.outRow 2 j + 1) (2 * d.rowBytes) fun _ c => spriteEx s.cfg d j c := by
  simp only [spr2Row]

/-- The first output row of SPRB2, under both settings of SCALE2X_ROW2. -/
def sprb2First (d : Descriptor) (s : State) (j : Nat) : State :=
  s.mapRow (s.outRow 2 j) (2 * d.rowBytes) fun old c => blendByte old (spriteEx s.cfg d j c)

theorem sprb2Row_of_copyRow1 {s : State} (h : s.cfg.row2 = .copyRow1) (d : Descriptor) (j : Nat) :
    sprb2Row d s j = (sprb2First d s j).mapRow (s.outRow 2 j + 1) (2 * d.rowBytes)
      fun _ c => (sprb2First d s j).surfByte (s.dst (s.outRow 2 j) c) := by
  simp only [sprb2Row, h, sprb2First]

theorem sprb2Row_of_blendIndependent {s : State} (h : s.cfg.row2 = .blendIndependent) (d : Descriptor)
    (j : Nat) :
    sprb2Row d s j = (sprb2First d s j).mapRow (s.outRow 2 j + 1) (2 * d.rowBytes)
      fun old c => blendByte old (spriteEx s.cfg d j c) := by
  simp only [sprb2Row, h, sprb2First]

/-- SPRB2 draws its first output row and then the second, whichever way SCALE2X_ROW2 has it. -/
theorem exists_sprb2Row_eq (d : Descriptor) (s : State) (j : Nat) :
    ∃ g, sprb2Row d s j = (sprb2First d s j).mapRow (s.outRow 2 j + 1) (2 * d.rowBytes) g := by
  cases h : s.cfg.row2 with
  | copyRow1 => exact ⟨_, sprb2Row_of_copyRow1 h d j⟩
  | blendIndependent => exact ⟨_, sprb2Row_of_blendIndependent h d j⟩

theorem storesInRow_spr2Row : StoresInRow 2 spr2Row where
  surfOnly := surfOnly_spr2Row
  keeps d s j _ h := by
    rw [spr2Row_eq, read_mapRow_mapRow_other _ _ _ _ (not_inSpriteRow_iff.1 h)]

theorem storesInRow_sprb2Row : StoresInRow 2 sprb2Row where
  surfOnly := surfOnly_sprb2Row
  keeps d s j _ h := by
    obtain ⟨g, hg⟩ := exists_sprb2Row_eq d s j
    rw [hg, sprb2First, read_mapRow_mapRow_other _ _ _ _ (not_inSpriteRow_iff.1 h)]

theorem dst_ne_dst_succ {s : State} {d : Descriptor} (hplaced : ¬ s.SpriteMisplaced d 2) (r : Nat)
    {c c' : Nat} (hc : c < 2 * d.rowBytes) (hc' : c' < 2 * d.rowBytes) : s.dst r c ≠ s.dst (r + 1) c' :=
  dst_ne_of_row_ne hplaced hc hc' r.lt_succ_self.ne

section

variable {s : State} {d : Descriptor} (hplaced : ¬ s.SpriteMisplaced d 2) {c : Nat}
  (hc : c < 2 * d.rowBytes)

include hplaced hc

theorem read_spr2Row (j : Nat) {b : Nat} (hb : b < 2) :
    (spr2Row d s j).surf.read (s.dst (s.outRow 2 j + b) c) = some (spriteEx s.cfg d j c) := by
  rw [spr2Row_eq]
  obtain rfl | rfl : b = 0 ∨ b = 1 := by omega
  · exact read_mapRow_mapRow_first s _ _ _ hc fun c' hc' => dst_ne_dst_succ hplaced _ hc hc'
  · exact read_mapRow_mapRow_second s _ _ _ hc fun c' hc' => dst_ne_dst_succ hplaced _ hc' hc

theorem read_sprb2Row_first (j : Nat) :
    (sprb2Row d s j).surf.read (s.dst (s.outRow 2 j) c) =
      some (blendByte (s.surfByte (s.dst (s.outRow 2 j) c)) (spriteEx s.cfg d j c)) := by
  obtain ⟨g, hg⟩ := exists_sprb2Row_eq d s j
  rw [hg, sprb2First,
    read_mapRow_mapRow_first s _ _ _ hc fun c' hc' => dst_ne_dst_succ hplaced _ hc hc']

/-- The second output row is the first one again, or is blended on its own (R147). -/
theorem read_sprb2Row_second (j : Nat) :
    (sprb2Row d s j).surf.read (s.dst (s.outRow 2 j + 1) c) =
      some (match s.cfg.row2 with
        | .copyRow1 => blendByte (s.surfByte (s.dst (s.outRow 2 j) c)) (spriteEx s.cfg d j c)
        | .blendIndependent =>
          blendByte (s.surfByte (s.dst (s.outRow 2 j + 1) c)) (spriteEx s.cfg d j c)) := by
  have hrows : ∀ c' < 2 * d.rowBytes, s.dst (s.outRow 2 j) c' ≠ s.dst (s.outRow 2 j + 1) c :=
    fun c' hc' => dst_ne_dst_succ hplaced _ hc' hc
  cases h : s.cfg.row2 with
  | copyRow1 =>
    have hfirst : (sprb2First d s j).surfByte (s.dst (s.outRow 2 j) c) =
        blendByte (s.surfByte (s.dst (s.outRow 2 j) c)) (spriteEx s.cfg d j c) :=
      surfByte_of_read (read_mapRow_inside s _ _ hc)
    rw [sprb2Row_of_copyRow1 h, ← hfirst]
    exact read_mapRow_mapRow_second s _ _ _ hc hrows
  | blendIndependent =>
    rw [sprb2Row_of_blendIndependent h]
    exact read_mapRow_mapRow_second s _ _ _ hc hrows

end

section

variable {s : State} {k : Nat} {d : Descriptor} (hk : s.cfg.sprites[k]? = some d)
  (hplaced : ¬ s.SpriteMisplaced d 2) {j c : Nat} (hj : j < d.h.toNat) (hdrawn : s.drawnRow 2 j)
  (hc : c < 2 * d.rowBytes)

include hk hplaced hj hdrawn hc

theorem read_drawSprite_spr2 {b : Nat} (hb : b < 2) :
    (drawSprite s k 2 spr2Row).surf.read (s.dst (s.outRow 2 j + b) c) =
      some (spriteEx s.cfg d j c) := by
  obtain ⟨_, ⟨m, rfl⟩, -, hread⟩ := read_drawSprite_drawn storesInRow_spr2Row hk hplaced hj hdrawn
  rw [hread _ ⟨b, hb, c, hc, rfl⟩]
  exact read_spr2Row (s := { s with surf := m }) hplaced hc j hb

theorem read_drawSprite_sprb2_first :
    (drawSprite s k 2 sprb2Row).surf.read (s.dst (s.outRow 2 j) c) =
      some (blendByte (s.surfByte (s.dst (s.outRow 2 j) c)) (spriteEx s.cfg d j c)) := by
  obtain ⟨_, ⟨m, rfl⟩, hold, hread⟩ := read_drawSprite_drawn storesInRow_sprb2Row hk hplaced hj hdrawn
  have hmem : s.InSpriteRow d 2 j (s.dst (s.outRow 2 j) c) := ⟨0, by decide, c, hc, rfl⟩
  rw [hread _ hmem, ← hold _ hmem]
  exact read_sprb2Row_first (s := { s with surf := m }) hplaced hc j

theorem read_drawSprite_sprb2_second :
    (drawSprite s k 2 sprb2Row).surf.read (s.dst (s.outRow 2 j + 1) c) =
      some (match s.cfg.row2 with
        | .copyRow1 => blendByte (s.surfByte (s.dst (s.outRow 2 j) c)) (spriteEx s.cfg d j c)
        | .blendIndependent =>
          blendByte (s.surfByte (s.dst (s.outRow 2 j + 1) c)) (spriteEx s.cfg d j c)) := by
  obtain ⟨_, ⟨m, rfl⟩, hold, hread⟩ := read_drawSprite_drawn storesInRow_sprb2Row hk hplaced hj hdrawn
  have hfirst : s.InSpriteRow d 2 j (s.dst (s.outRow 2 j) c) := ⟨0, by decide, c, hc, rfl⟩
  have hsecond : s.InSpriteRow d 2 j (s.dst (s.outRow 2 j + 1) c) := ⟨1, by decide, c, hc, rfl⟩
  rw [hread _ hsecond, ← hold _ hfirst, ← hold _ hsecond]
  exact read_sprb2Row_second (s := { s with surf := m }) hplaced hc j

end

/-- Settles O35: each drawn source row is two runs of stores of the doubled row, and columns `2c` and
`2c + 1` of it double the two nibbles of source byte `c`. -/
theorem spr2CopiesTwoByTwo : Obligations.Spr2CopiesTwoByTwo := by
  unfold Obligations.Spr2CopiesTwoByTwo
  refine ⟨encodedAsI_of_formatI rfl fun _ => rfl, fun s k hfault =>
    ⟨(drawsSprite_spr2 k).exceptions hfault, fun d hidle hk hplaced => ⟨_,
      exec_of_placed (drawsSprite_spr2 k) storesInRow_spr2Row hfault hidle hk hplaced, ?_, ?_⟩⟩⟩
  · intro j hj hdrawn b hb c hc src
    have heven := read_drawSprite_spr2 hk hplaced hj hdrawn (c := 2 * c) (by omega) hb
    have hodd := read_drawSprite_spr2 hk hplaced hj hdrawn (c := 2 * c + 1) (by omega) hb
    rw [spriteEx_even] at heven
    rw [spriteEx_odd] at hodd
    exact ⟨heven, hodd⟩
  · exact fun i hi => read_drawSprite_other storesInRow_spr2Row hk fun j hj hdrawn =>
      not_inSpriteRow_iff.2 (hi j hj hdrawn)

/-- Settles O36: the first output row is blended against its old content; the second reads the first, or
its own old content, which the first row's stores left alone. -/
theorem sprb2BlendsTwoByTwo : Obligations.Sprb2BlendsTwoByTwo := by
  unfold Obligations.Sprb2BlendsTwoByTwo
  refine ⟨encodedAsI_of_formatI rfl fun _ => rfl, fun s k hfault =>
    ⟨(drawsSprite_sprb2 k).exceptions hfault, fun d hidle hk hplaced => ⟨_,
      exec_of_placed (drawsSprite_sprb2 k) storesInRow_sprb2Row hfault hidle hk hplaced, ?_, ?_⟩⟩⟩
  · exact fun j hj hdrawn c hc => ⟨read_drawSprite_sprb2_first hk hplaced hj hdrawn hc,
      read_drawSprite_sprb2_second hk hplaced hj hdrawn hc⟩
  · exact fun i hi => read_drawSprite_other storesInRow_sprb2Row hk fun j hj hdrawn =>
      not_inSpriteRow_iff.2 (hi j hj hdrawn)

end Sys2Proof.Machine

/-! SUPPORT. The glyph look-up, text measurement and GLYPH (spec/42_compositor.md R148 to R152): a pixel
write changes one pixel, a glyph is a loop of such writes, and the obligations about them. -/

namespace Sys2Proof.Machine

open Sys2Proof

/-! ### Admitted configurations (R8) -/

theorem surfWidth_even_of_wf {c : Config} (h : c.wf = true) : c.surfWidth % 2 = 0 := by
  simp only [Config.wf, Bool.and_eq_true, Config.widthEven, decide_eq_true_eq] at h
  tauto

theorem glyphs_length_of_wf {c : Config} (h : c.wf = true) : c.glyphs.length = c.glyphCount := by
  simp only [Config.wf, Bool.and_eq_true, Config.tablesOk, decide_eq_true_eq] at h
  tauto

/-! ### The glyph look-up (R148) -/

theorem glyphLookup_of_unknown {c : Config} {code : Nat} (h : code < c.firstCode ∨ c.lastCode < code) :
    glyphLookup c code = none := if_pos h

theorem glyphLookup_of_known {c : Config} {code : Nat} (hfirst : c.firstCode ≤ code)
    (hlast : code ≤ c.lastCode) : glyphLookup c code = c.glyphs[code - c.firstCode]? :=
  if_neg (by omega)

/-- In an admitted configuration every code of the range has a glyph (R8 (g)). -/
theorem exists_glyph {c : Config} {code : Nat} (h : c.wf = true) (hfirst : c.firstCode ≤ code)
    (hlast : code ≤ c.lastCode) : ∃ d, c.glyphs[code - c.firstCode]? = some d := by
  have hlt : code - c.firstCode < c.glyphs.length := by
    rw [glyphs_length_of_wf h, Config.glyphCount]
    omega
  exact ⟨_, List.getElem?_eq_getElem hlt⟩

/-! ### MCLR and MADD (R151, R152) -/

theorem exec_mclr (s : State) : exec .mclr s = runCommand .mclr s none (s.setMeas 0#16 0#16) := rfl

/-- Settles O40: MCLR has no check that looks at the scan-out state. -/
theorem mclrClearsMeasurement : Obligations.MclrClearsMeasurement := by
  unfold Obligations.MclrClearsMeasurement
  refine ⟨encodedAsN_of_formatN rfl, fun s hfault => ?_⟩
  rw [exec_mclr, runCommand_of_clear hfault]
  rfl

theorem exec_madd_of_unknown {s : State} {code : Nat} (hfault : s.fault = false)
    (h : glyphLookup s.cfg code = none) : exec (.madd code) s = .next (s.setFound false) := by
  simp only [exec, execMadd, h, runCommand_of_clear hfault]

theorem exec_madd_of_known {s : State} {code : Nat} {d : Descriptor} (hfault : s.fault = false)
    (h : glyphLookup s.cfg code = some d) :
    exec (.madd code) s =
      .next ((s.setMeas (s.measW + d.w) (maxU16 s.measH d.h)).setFound true) := by
  simp only [exec, execMadd, h, runCommand_of_clear hfault]

theorem maxU16_eq_ofNat_max (a b : BitVec 16) :
    maxU16 a b = BitVec.ofNat 16 (max a.toNat b.toNat) := by
  rw [maxU16]
  split
  next h => rw [Nat.max_eq_right h.le, BitVec.ofNat_toNat, BitVec.setWidth_eq]
  next h => rw [Nat.max_eq_left (Nat.not_lt.1 h), BitVec.ofNat_toNat, BitVec.setWidth_eq]

theorem add_eq_ofNat_mod (a b : BitVec 16) :
    a + b = BitVec.ofNat 16 ((a.toNat + b.toNat) % 65536) := by
  apply BitVec.eq_of_toNat_eq
  rw [BitVec.toNat_add, BitVec.toNat_ofNat, Nat.mod_mod]

/-- Settles O41: the look-up decides between the two effects, and neither has a check. -/
theorem maddAccumulates : Obligations.MaddAccumulates := by
  unfold Obligations.MaddAccumulates
  refine ⟨encodedAsI_of_formatI rfl fun _ => rfl, fun s code hfault hwf =>
    ⟨fun hunknown => ?_, fun hfirst hlast => ?_⟩⟩
  · rw [exec_madd_of_unknown hfault (glyphLookup_of_unknown hunknown)]
    rfl
  · obtain ⟨d, hd⟩ := exists_glyph hwf hfirst hlast
    refine ⟨d, hd, ?_⟩
    rw [exec_madd_of_known hfault ((glyphLookup_of_known hfirst hlast).trans hd), add_eq_ofNat_mod,
      maxU16_eq_ofNat_max]
    rfl

/-! ### One pixel (R55, R56) -/

theorem surfByte_setPix (s : State) (x y : Nat) (v : Nibble) (i : Nat) :
    (s.setPix x y v).surfByte i =
      if i = pixByte s.cfg x y then
        if x % 2 = 0 then nibbles (hiNibble (s.surfByte i)) v else nibbles v (loNibble (s.surfByte i))
      else s.surfByte i := by
  rw [State.setPix, surfByte_pokeSurf]
  split
  next h => rw [h]
  next => rfl

theorem half_lt_stride {c : Config} (heven : c.surfWidth % 2 = 0) {x : Nat} (hx : x < c.surfWidth) :
    x / 2 < c.stride := by
  rw [Config.stride]
  omega

/-- Two pixels share a byte only side by side in one row. -/
theorem pixByte_eq_iff {c : Config} (heven : c.surfWidth % 2 = 0) {x x' y y' : Nat}
    (hx : x < c.surfWidth) (hx' : x' < c.surfWidth) :
    pixByte c x' y' = pixByte c x y ↔ x' / 2 = x / 2 ∧ y' = y := by
  constructor
  · intro h
    have hy : y' = y := by
      rw [← row_of_address (half_lt_stride heven hx') y', ← pixByte, h, pixByte,
        row_of_address (half_lt_stride heven hx)]
    subst hy
    exact ⟨Nat.add_left_cancel h, rfl⟩
  · rintro ⟨hhalf, rfl⟩
    rw [pixByte, pixByte, hhalf]

/-- The two nibbles of a byte are two pixels, so a pixel write changes one pixel. -/
theorem pix_setPix {s : State} (heven : s.cfg.surfWidth % 2 = 0) {x x' : Nat} (y y' : Nat)
    (v : Nibble) (hx : x < s.cfg.surfWidth) (hx' : x' < s.cfg.surfWidth) :
    (s.setPix x y v).pix x' y' = if x' = x ∧ y' = y then v else s.pix x' y' := by
  have hcfg : (s.setPix x y v).cfg = s.cfg := rfl
  simp only [State.pix, hcfg, surfByte_setPix, pixByte_eq_iff heven hx hx']
  by_cases hbyte : x' / 2 = x / 2 ∧ y' = y
  · obtain ⟨hhalf, rfl⟩ := hbyte
    by_cases hxx : x' = x
    · subst hxx
      by_cases hpar : x' % 2 = 0 <;> simp [hpar]
    · by_cases hpar : x % 2 = 0
      · have hpar' : ¬ x' % 2 = 0 := by omega
        simp [hhalf, hxx, hpar, hpar']
      · have hpar' : x' % 2 = 0 := by omega
        simp [hhalf, hxx, hpar, hpar']
  · have hne : ¬ (x' = x ∧ y' = y) := by
      rintro ⟨rfl, rfl⟩
      exact hbyte ⟨rfl, rfl⟩
    rw [if_neg hbyte, if_neg hne]

/-! ### A loop that ORs ink (R150) -/

/-- Each round of a loop ORs the ink into a pixel or leaves it, and ORing twice is ORing once: so it does
not matter how many rounds hit the pixel. -/
theorem pix_foldl_ink {f : State → Nat → State} {hit : Nat → Prop} [DecidablePred hit] {ink : Nibble}
    {x y : Nat} {s t : State} {l : List Nat} (honly : ∀ t k, SurfOnly t (f t k))
    (hf : ∀ t, SurfOnly s t → ∀ k ∈ l,
      (f t k).pix x y = if hit k then t.pix x y ||| ink else t.pix x y) (ht : SurfOnly s t) :
    (l.foldl f t).pix x y = if ∃ k ∈ l, hit k then t.pix x y ||| ink else t.pix x y := by
  induction l generalizing t with
  | nil => simp
  | cons k l ih =>
    have hround := hf t ht k List.mem_cons_self
    rw [List.foldl_cons, ih (fun u hu m hm => hf u hu m (List.mem_cons_of_mem k hm))
      (ht.trans (honly t k)), hround]
    by_cases hk : hit k
    · simp [hk, BitVec.or_assoc]
    · simp [hk]

section

variable {s : State} {d : Descriptor} {x y : Nat}

theorem surfOnly_glyphRow (d : Descriptor) (s : State) (j : Nat) : SurfOnly s (glyphRow d s j) :=
  SurfOnly.foldl (surfOnly_glyphColumn d j) _ s

theorem pix_glyphColumn (heven : s.cfg.surfWidth % 2 = 0) (hx : x < s.cfg.surfWidth) {i : Nat}
    (hi : s.argX.toNat + i < s.cfg.surfWidth) (j : Nat) :
    (glyphColumn d j s i).pix x y =
      if x = s.argX.toNat + i ∧ y = s.argY.toNat + j ∧ glyphBit s.cfg d i j then
        s.pix x y ||| glyphInk s.cfg x
      else s.pix x y := by
  rw [glyphColumn]
  by_cases hbit : glyphBit s.cfg d i j
  · rw [if_pos hbit, State.inkPixel, pix_setPix heven _ _ _ hi hx]
    by_cases hxy : x = s.argX.toNat + i ∧ y = s.argY.toNat + j
    · obtain ⟨rfl, rfl⟩ := hxy
      rw [if_pos ⟨rfl, rfl⟩, if_pos ⟨rfl, rfl, hbit⟩]
    · rw [if_neg hxy, if_neg fun ⟨hcol, hrow, _⟩ => hxy ⟨hcol, hrow⟩]
  · rw [if_neg hbit, if_neg fun ⟨_, _, h⟩ => hbit h]

theorem pix_glyphRow (heven : s.cfg.surfWidth % 2 = 0) (hx : x < s.cfg.surfWidth)
    (hwidth : s.argX.toNat + d.w.toNat ≤ s.cfg.surfWidth) (j : Nat) :
    (glyphRow d s j).pix x y =
      if ∃ i ∈ List.range d.w.toNat,
          x = s.argX.toNat + i ∧ y = s.argY.toNat + j ∧ glyphBit s.cfg d i j then
        s.pix x y ||| glyphInk s.cfg x
      else s.pix x y := by
  refine pix_foldl_ink (surfOnly_glyphColumn d j) (fun t ht i hi => ?_) (SurfOnly.refl s)
  obtain ⟨m, rfl⟩ := ht
  have hcol : s.argX.toNat + i < s.cfg.surfWidth :=
    (Nat.add_lt_add_left (List.mem_range.1 hi) _).trans_le hwidth
  exact pix_glyphColumn (s := { s with surf := m }) heven hx hcol j

theorem pix_drawGlyph (heven : s.cfg.surfWidth % 2 = 0) (hx : x < s.cfg.surfWidth)
    (hwidth : s.argX.toNat + d.w.toNat ≤ s.cfg.surfWidth) :
    (drawGlyph d s).pix x y =
      if ∃ j ∈ List.range d.h.toNat, ∃ i ∈ List.range d.w.toNat,
          x = s.argX.toNat + i ∧ y = s.argY.toNat + j ∧ glyphBit s.cfg d i j then
        s.pix x y ||| glyphInk s.cfg x
      else s.pix x y := by
  refine pix_foldl_ink (surfOnly_glyphRow d) (fun t ht j _ => ?_) (SurfOnly.refl s)
  obtain ⟨m, rfl⟩ := ht
  exact pix_glyphRow (s := { s with surf := m }) heven hx hwidth j

/-- A pixel is some set bit of the glyph exactly when it is in the box and its own bit is set. -/
theorem exists_set_bit_iff (hX : 0 ≤ s.argX) (hY : 0 ≤ s.argY) :
    (∃ j ∈ List.range d.h.toNat, ∃ i ∈ List.range d.w.toNat,
        x = s.argX.toNat + i ∧ y = s.argY.toNat + j ∧ glyphBit s.cfg d i j) ↔
      s.argX ≤ x ∧ (x : Int) < s.argX + d.w.toNat ∧ s.argY ≤ y ∧ (y : Int) < s.argY + d.h.toNat ∧
        glyphBit s.cfg d (x - s.argX.toNat) (y - s.argY.toNat) := by
  simp only [List.mem_range]
  constructor
  · rintro ⟨j, hj, i, hi, rfl, rfl, hbit⟩
    rw [Nat.add_sub_cancel_left, Nat.add_sub_cancel_left]
    exact ⟨by omega, by omega, by omega, by omega, hbit⟩
  · rintro ⟨hleft, hright, htop, hbottom, hbit⟩
    exact ⟨y - s.argY.toNat, by omega, x - s.argX.toNat, by omega, by omega, by omega, hbit⟩

/-! ### The bytes outside a glyph's box -/

theorem read_glyphColumn_other {i j a : Nat}
    (ha : a ≠ pixByte s.cfg (s.argX.toNat + i) (s.argY.toNat + j)) :
    (glyphColumn d j s i).surf.read a = s.surf.read a := by
  rw [glyphColumn]
  split
  · exact Memory.read_write_other _ _ ha
  · rfl

theorem read_glyphRow_other {j a : Nat}
    (ha : ∀ i < d.w.toNat, a ≠ pixByte s.cfg (s.argX.toNat + i) (s.argY.toNat + j)) :
    (glyphRow d s j).surf.read a = s.surf.read a := by
  refine read_foldl_other
    (place := fun i a => a = pixByte s.cfg (s.argX.toNat + i) (s.argY.toNat + j))
    (surfOnly_glyphColumn d j) (fun t ht i b hb => ?_) (fun i hi => ha i (List.mem_range.1 hi))
    (SurfOnly.refl s)
  obtain ⟨m, rfl⟩ := ht
  exact read_glyphColumn_other (s := { s with surf := m }) hb

theorem read_drawGlyph_other {a : Nat}
    (ha : ∀ j < d.h.toNat, ∀ i < d.w.toNat,
      a ≠ pixByte s.cfg (s.argX.toNat + i) (s.argY.toNat + j)) :
    (drawGlyph d s).surf.read a = s.surf.read a := by
  refine read_foldl_other
    (place := fun j a => ∃ i < d.w.toNat, a = pixByte s.cfg (s.argX.toNat + i) (s.argY.toNat + j))
    (surfOnly_glyphRow d) (fun t ht j b hb => ?_) (fun j hj hmem => ?_) (SurfOnly.refl s)
  · obtain ⟨m, rfl⟩ := ht
    exact read_glyphRow_other (s := { s with surf := m }) fun i hi heq => hb ⟨i, hi, heq⟩
  · obtain ⟨i, hi, heq⟩ := hmem
    exact ha j (List.mem_range.1 hj) i hi heq

/-! ### GLYPH under its checks (R225) -/

theorem exec_glyph_of_streaming (hfault : s.fault = false) (hst : s.st = .streaming) (code : Nat) :
    exec (.glyph code) s = .next (s.faulted 0x02#8 (encode (.glyph code))) := by
  simp only [exec, execGlyph, phaseCheck_of_streaming hst]
  split <;> exact runCommand_of_check hfault _ .phase _

theorem exec_glyph_of_unknown (hfault : s.fault = false) (hidle : s.st = .idle) {code : Nat}
    (h : glyphLookup s.cfg code = none) :
    exec (.glyph code) s = .next (s.setResult false 0#16 0#16) := by
  simp only [exec, execGlyph, h, runCommand_phase_of_idle hfault hidle]

theorem exec_glyph_of_known (hidle : s.st = .idle) {code : Nat} (h : glyphLookup s.cfg code = some d) :
    exec (.glyph code) s =
      runCommand (.glyph code) s (s.glyphCheck d) ((drawGlyph d s).setResult true d.w d.h) := by
  simp only [exec, execGlyph, h, phaseCheck_of_idle hidle, Option.none_or]

theorem glyphCheck_of_fits (h : s.GlyphFits d) : s.glyphCheck d = none := by
  rw [State.glyphCheck, if_neg]
  omega

theorem glyphCheck_of_not_fits (h : ¬ s.GlyphFits d) : s.glyphCheck d = some .glyphBounds := by
  rw [State.glyphCheck, if_pos]
  omega

end

/-- Settles O38: the four outcomes are the checks of R225 in order; the loop ORs the ink into the pixels
of set bits, and stores to no byte outside the box. -/
theorem glyphDrawsInk : Obligations.GlyphDrawsInk := by
  unfold Obligations.GlyphDrawsInk
  refine ⟨encodedAsI_of_formatI rfl fun _ => rfl, fun s code hwf hfault =>
    ⟨fun hst => exec_glyph_of_streaming hfault hst code, fun hidle hunknown => ?_,
      fun hidle hfirst hlast => ?_⟩⟩
  · exact exec_glyph_of_unknown hfault hidle (glyphLookup_of_unknown hunknown)
  · obtain ⟨d, hd⟩ := exists_glyph hwf hfirst hlast
    have hexec := exec_glyph_of_known hidle ((glyphLookup_of_known hfirst hlast).trans hd)
    refine ⟨d, hd, fun hout => ?_, fun hfits => ?_⟩
    · rw [hexec, glyphCheck_of_not_fits hout, runCommand_of_check hfault]
      rfl
    · have hcheck := glyphCheck_of_fits hfits
      obtain ⟨hX, hY, hright, -⟩ := hfits
      have hwidth : s.argX.toNat + d.w.toNat ≤ s.cfg.surfWidth := by omega
      have hsurf : drawGlyph d s = { s with surf := (drawGlyph d s).surf } :=
        (surfOnly_drawGlyph d s).eq_with_surf
      refine ⟨(drawGlyph d s).surf, ?_, fun x y hx => ?_, fun a ha => ?_⟩
      · rw [hexec, hcheck, runCommand_of_clear hfault]
        exact congrArg (fun t => Host.Outcome.next (t.setResult true d.w d.h)) hsurf
      · rw [← hsurf, pix_drawGlyph (surfWidth_even_of_wf hwf) hx hwidth]
        exact if_congr (exists_set_bit_iff hX hY) rfl rfl
      · exact read_drawGlyph_other fun j hj i hi =>
          ha _ _ (by omega) (by omega) (by omega) (by omega)

end Sys2Proof.Machine

/-! SUPPORT. Passes and transfers (spec/43_scanout.md R181 to R184, R192, R193): how a command in
progress goes on, what keeps the block Idle, how a pass ends, what a step does to ST; and the
obligations. -/

namespace Sys2Proof.Machine

open Sys2Proof

/-! ### Commands under their checks (R225) -/

/-- Every command is an effect under checks. -/
theorem exec_eq_runCommand (i : Instr) (s : State) :
    ∃ check effect, exec i s = runCommand i s check effect := by
  cases i with
  | glyph code =>
    simp only [exec, execGlyph]
    split <;> exact ⟨_, _, rfl⟩
  | madd code =>
    simp only [exec, execMadd]
    split <;> exact ⟨_, _, rfl⟩
  | mclr => exact ⟨_, _, exec_mclr s⟩
  | _ => exact ⟨_, _, rfl⟩

theorem exec_of_faulted {i : Instr} {s : State} (h : s.fault = true) : exec i s = .next s := by
  obtain ⟨check, effect, heq⟩ := exec_eq_runCommand i s
  rw [heq, runCommand_of_faulted h]

/-! ### Going on with a command in progress (R181) -/

/-- With no command in progress the display port is not asked. -/
theorem pump_of_no_hold {s : State} (h : s.hold = none) (p : List (Option Answer)) :
    pump p s = { s with port := p } := by
  rcases p with _ | ⟨_ | a, rest⟩
  · rfl
  · simp only [pump, h]
  · simp only [pump, h]

theorem pump_of_answer {s : State} {h : Hold} (hh : s.hold = some h) (a : Answer)
    (rest : List (Option Answer)) : pump (some a :: rest) s = pump rest (answered h a s) := by
  simp only [pump, hh]

/-- A silent port, for one step or for ever, uses up at most the silence. -/
theorem pump_of_silence {s : State} {p : List (Option Answer)} {h : Hold} (hh : s.hold = some h)
    (hp : p = [] ∨ ∃ rest, p = none :: rest) : pump p s = { s with port := p.tail } := by
  obtain rfl | ⟨rest, rfl⟩ := hp
  · rfl
  · simp only [pump, hh, List.tail_cons]

/-- What every answer to a held Emit keeps, going on with the command keeps. -/
theorem pump_induction {P : State → Prop} (hport : ∀ s p, P s → P { s with port := p })
    (hanswer : ∀ s h a, s.hold = some h → P s → P (answered h a s)) (p : List (Option Answer))
    {s : State} (hs : P s) : P (pump p s) := by
  induction p generalizing s with
  | nil => exact hport s [] hs
  | cons x rest ih =>
    cases hh : s.hold with
    | none =>
      rw [pump_of_no_hold hh]
      exact hport s _ hs
    | some h =>
      cases x with
      | none =>
        rw [pump_of_silence hh (.inr ⟨rest, rfl⟩)]
        exact hport s _ hs
      | some a =>
        rw [pump_of_answer hh]
        exact ih (hanswer s h a hh hs)

/-- The answer `a` to the Emit at `h` joins the display log. -/
def State.recordAnswer (s : State) (h : Hold) (a : Answer) : State :=
  { s with displayLog := s.displayLog ++ [(s.offered h, a)] }

theorem answered_send (a : Answer) (s : State) :
    answered .send a s = (s.recordAnswer .send a).endTransfer a.failed := rfl

theorem answered_addrColumn (a : Answer) (s : State) :
    answered .addrColumn a s =
      { s.recordAnswer .addrColumn a with hold := some (.addrRow a.failed) } := rfl

theorem answered_addrRow (failed : Bool) (a : Answer) (s : State) :
    answered (.addrRow failed) a s =
      (s.recordAnswer (.addrRow failed) a).endTransfer (failed || a.failed) := rfl

theorem answered_frameColumn (a : Answer) (s : State) :
    answered .frameColumn a s =
      { s.recordAnswer .frameColumn a with hold := some (.frameRow a.failed) } := rfl

theorem answered_frameRow (failed : Bool) (a : Answer) (s : State) :
    answered (.frameRow failed) a s =
      frameNext (beginPass (s.recordAnswer (.frameRow failed) a)) (failed || a.failed) := rfl

theorem answered_frameData (failed : Bool) (a : Answer) (s : State) :
    answered (.frameData failed) a s =
      frameNext (s.recordAnswer (.frameData failed) a) (failed || a.failed) := rfl

@[simp] theorem recordAnswer_st (s : State) (h : Hold) (a : Answer) :
    (s.recordAnswer h a).st = s.st := rfl

@[simp] theorem Answer.failed_eq (a : Answer) : a.failed = decide (a = .fail) := by cases a <;> rfl

/-! ### BEGIN, SEND and ADDR -/

/-- Settles O43: BEGIN's effect is the pass's start, under the PHASE check. -/
theorem beginStartsAPass : Obligations.BeginStartsAPass := by
  unfold Obligations.BeginStartsAPass
  exact ⟨encodedAsN_of_formatN rfl, fun s hfault =>
    ⟨fun hidle => runCommand_phase_of_idle hfault hidle .begin (beginPass s),
      fun hst => runCommand_phase_of_streaming hfault hst .begin (beginPass s)⟩⟩

theorem exec_send_of_valid {s : State} (hfault : s.fault = false) (h : s.batchValid = true) :
    exec .send s = .next (s.transfer .send) := by
  simp only [exec, execSend, State.batchCheck, h, if_true, runCommand_of_clear hfault]

theorem exec_send_of_empty {s : State} (hfault : s.fault = false) (h : s.batchValid = false) :
    exec .send s = .next (s.faulted 0x07#8 (encode .send)) := by
  simp only [exec, execSend, State.batchCheck, h, Bool.false_eq_true, if_false,
    runCommand_of_check hfault, FaultCode.bits]

/-- The one answer to SEND ends it. -/
theorem transfer_send_of_answer {s : State} {a : Answer} {rest : List (Option Answer)}
    (hport : s.port = some a :: rest) :
    s.transfer .send = { s with
      hold := none
      port := rest
      displayLog := s.displayLog ++ [(.data s.batchBytes, a)]
      xferFail := a.failed } := by
  rw [State.transfer, hport, pump_of_answer (h := .send) rfl]
  exact pump_of_no_hold rfl rest

/-- The two answers to ADDR end it, whatever the first one is. -/
theorem transfer_addr_of_answers {s : State} {r1 r2 : Answer} {rest : List (Option Answer)}
    (hport : s.port = some r1 :: some r2 :: rest) :
    s.transfer .addrColumn = { s with
      hold := none
      port := rest
      displayLog := s.displayLog ++
        [(.setColumnRange 0 (s.cfg.nw - 1), r1)] ++ [(.setRowRange 0 (s.cfg.nh - 1), r2)]
      xferFail := r1.failed || r2.failed } := by
  rw [State.transfer, hport, pump_of_answer (h := .addrColumn) rfl,
    pump_of_answer (h := .addrRow r1.failed) rfl]
  exact pump_of_no_hold rfl rest

/-- Settles O48: BATCH_VALID decides between the fault and the transfer, and the transfer is one Emit. -/
theorem sendForwardsTheBatch : Obligations.SendForwardsTheBatch := by
  unfold Obligations.SendForwardsTheBatch
  refine ⟨encodedAsN_of_formatN rfl, fun s hfault => ⟨fun hempty => ?_,
    fun a rest hvalid hhold hport => ?_, fun hvalid hsilent => ?_⟩⟩
  · exact exec_send_of_empty hfault hempty
  · rw [exec_send_of_valid hfault hvalid, transfer_send_of_answer hport, Answer.failed_eq, ← hhold]
    rfl
  · rw [exec_send_of_valid hfault hvalid, State.transfer, pump_of_silence (h := .send) rfl hsilent]

/-- Settles O49: the transfer is two Emits, under the PHASE check. -/
theorem addrSendsTheHandshake : Obligations.AddrSendsTheHandshake := by
  unfold Obligations.AddrSendsTheHandshake
  refine ⟨encodedAsN_of_formatN rfl, fun s hfault => ⟨fun r1 r2 rest hidle hhold hport => ?_,
    fun hst => runCommand_phase_of_streaming hfault hst .addr _⟩⟩
  have hexec : exec .addr s = .next (s.transfer .addrColumn) :=
    runCommand_phase_of_idle hfault hidle .addr _
  rw [hexec, transfer_addr_of_answers hport, Answer.failed_eq, Answer.failed_eq, List.append_assoc,
    ← hhold]
  rfl

/-! ### What keeps the block Idle (R182) -/

/-- The Emits of FRAME that come before its pass. -/
def Hold.beforePass : Hold → Bool
  | .frameColumn => true
  | .frameRow _ => true
  | .send => false
  | .addrColumn => false
  | .addrRow _ => false
  | .frameData _ => false

/-- Idle, with no command in progress that is yet to start a pass. -/
structure State.RestsIdle (s : State) : Prop where
  idle : s.st = .idle
  hold : ∀ h, s.hold = some h → h.beforePass = false

theorem restsIdle_endTransfer {s : State} (h : s.st = .idle) (failed : Bool) :
    (s.endTransfer failed).RestsIdle := ⟨h, nofun⟩

/-- The end of a batch starts no pass. -/
theorem produceBatch_st_of_idle {s : State} (h : s.st = .idle) : (produceBatch s).st = .idle := by
  obtain ⟨m, p, c, heq⟩ := produceBatch_frame s
  simp only [heq, h, ite_self]

theorem restsIdle_frameNext {s : State} (h : s.st = .idle) (failed : Bool) :
    (frameNext s failed).RestsIdle := by
  rw [frameNext]
  split
  · exact ⟨produceBatch_st_of_idle h, by rintro _ ⟨⟩; rfl⟩
  · exact restsIdle_endTransfer h failed

theorem restsIdle_answered {s : State} {h : Hold} (hh : s.hold = some h) (hs : s.RestsIdle)
    (a : Answer) : (answered h a s).RestsIdle := by
  have hlater : h.beforePass = false := hs.hold h hh
  cases h with
  | send =>
    rw [answered_send]
    exact restsIdle_endTransfer ((recordAnswer_st ..).trans hs.idle) _
  | addrColumn => exact ⟨hs.idle, by rintro _ ⟨⟩; rfl⟩
  | addrRow failed =>
    rw [answered_addrRow]
    exact restsIdle_endTransfer ((recordAnswer_st ..).trans hs.idle) _
  | frameColumn => cases hlater
  | frameRow failed => cases hlater
  | frameData failed =>
    rw [answered_frameData]
    exact restsIdle_frameNext ((recordAnswer_st ..).trans hs.idle) _

theorem restsIdle_pump {s : State} (hs : s.RestsIdle) (p : List (Option Answer)) :
    (pump p s).RestsIdle :=
  pump_induction (fun _ _ h => ⟨h.idle, h.hold⟩) (fun _ _ a hh h => restsIdle_answered hh h a) p hs

theorem transfer_st_of_idle {s : State} (hidle : s.st = .idle) {h : Hold} (hh : h.beforePass = false) :
    (s.transfer h).st = .idle :=
  (restsIdle_pump (s := { s with hold := some h }) ⟨hidle, by rintro _ ⟨⟩; exact hh⟩ s.port).idle

theorem SurfOnly.st_eq {s t : State} (h : SurfOnly s t) : t.st = s.st := by
  obtain ⟨m, rfl⟩ := h
  rfl

/-- What a fault keeps and the effect of a command keeps, the command keeps. -/
theorem runCommand_keeps {P : State → Prop} {i : Instr} {s t effect : State} {check : Option FaultCode}
    (h : runCommand i s check effect = .next t) (hs : P s)
    (hfault : ∀ code info, P (s.faulted code info)) (heffect : check = none → P effect) : P t := by
  obtain ⟨-, rfl⟩ | ⟨-, c, -, rfl⟩ | ⟨-, hcheck, rfl⟩ := runCommand_cases h
  · exact hs
  · exact hfault _ _
  · exact heffect hcheck

/-- A command whose effect leaves the block Idle leaves it Idle. -/
theorem runCommand_st_of_idle {i : Instr} {s t effect : State} {check : Option FaultCode}
    (hidle : s.st = .idle) (h : runCommand i s check effect = .next t)
    (heffect : check = none → effect.st = .idle) : t.st = .idle :=
  runCommand_keeps (P := fun u => u.st = .idle) h hidle (fun _ _ => hidle) heffect

/-- A command that only draws leaves the block Idle. -/
theorem runCommand_st_of_surfOnly {i : Instr} {s t effect : State} {check : Option FaultCode}
    (hidle : s.st = .idle) (h : runCommand i s check effect = .next t) (hsurf : SurfOnly s effect) :
    t.st = .idle :=
  runCommand_st_of_idle hidle h fun _ => hsurf.st_eq.trans hidle

/-- Only BEGIN and FRAME start a pass (R182). -/
theorem exec_st_of_idle {i : Instr} {s t : State} (hidle : s.st = .idle) (h : exec i s = .next t)
    (hbegin : i ≠ .begin) (hframe : i ≠ .frame) : t.st = .idle := by
  cases i with
  | clear => exact runCommand_st_of_surfOnly hidle h (surfOnly_clearSurface s)
  | fade => exact runCommand_st_of_surfOnly hidle h (surfOnly_fadeSurface s)
  | scroll delta => exact runCommand_st_of_surfOnly hidle h (surfOnly_scrollRows s _)
  | spr k => exact runCommand_st_of_surfOnly hidle h (surfOnly_drawSprite surfOnly_sprRow s k 1)
  | sprb k => exact runCommand_st_of_surfOnly hidle h (surfOnly_drawSprite surfOnly_sprbRow s k 1)
  | spr2 k => exact runCommand_st_of_surfOnly hidle h (surfOnly_drawSprite surfOnly_spr2Row s k 2)
  | sprb2 k => exact runCommand_st_of_surfOnly hidle h (surfOnly_drawSprite surfOnly_sprb2Row s k 2)
  | glyph code =>
    simp only [exec, execGlyph] at h
    split at h
    · exact runCommand_st_of_idle hidle h fun _ => hidle
    · exact runCommand_st_of_idle hidle h fun _ => (surfOnly_drawGlyph _ s).st_eq.trans hidle
  | mclr =>
    rw [exec_mclr] at h
    exact runCommand_st_of_idle hidle h fun _ => hidle
  | madd code =>
    simp only [exec, execMadd] at h
    split at h <;> exact runCommand_st_of_idle hidle h fun _ => hidle
  | begin => exact absurd rfl hbegin
  | batch => exact runCommand_st_of_idle hidle h fun _ => produceBatch_st_of_idle hidle
  | send => exact runCommand_st_of_idle hidle h fun _ => transfer_st_of_idle hidle rfl
  | addr => exact runCommand_st_of_idle hidle h fun _ => transfer_st_of_idle hidle rfl
  | frame => exact absurd rfl hframe

/-! ### What ends a pass (R182, R187) -/

/-- Streaming, or after the last batch of a pass. -/
def State.StreamsOrComplete (s : State) : Prop := s.st = .streaming ∨ s.nb.toNat = s.cfg.nbFrame

/-- A batch ends the pass only as the NB_FRAME-th. -/
theorem streamsOrComplete_produceBatch {s : State} (h : s.st = .streaming) :
    (produceBatch s).StreamsOrComplete := by
  obtain ⟨m, p, c, heq⟩ := produceBatch_frame s
  by_cases hlast : (s.nb + 1#16).toNat = s.cfg.nbFrame
  · exact .inr (by rw [heq]; exact hlast)
  · exact .inl (by simp only [heq, hlast, if_false, h])

theorem streamsOrComplete_frameNext {s : State} (h : s.StreamsOrComplete) (failed : Bool) :
    (frameNext s failed).StreamsOrComplete := by
  rw [frameNext]
  split
  next hmore =>
    have hst : s.st = .streaming := h.resolve_right hmore.ne
    exact streamsOrComplete_produceBatch hst
  next => exact h

theorem streamsOrComplete_recordAnswer {s : State} (hs : s.StreamsOrComplete) (h : Hold) (a : Answer) :
    (s.recordAnswer h a).StreamsOrComplete := hs

theorem streamsOrComplete_answered {s : State} (hs : s.StreamsOrComplete) (h : Hold) (a : Answer) :
    (answered h a s).StreamsOrComplete := by
  cases h with
  | send | addrColumn | addrRow failed | frameColumn => exact hs
  | frameRow failed =>
    rw [answered_frameRow]
    exact streamsOrComplete_frameNext (.inl rfl) _
  | frameData failed =>
    rw [answered_frameData]
    exact streamsOrComplete_frameNext (streamsOrComplete_recordAnswer hs _ a) _

theorem streamsOrComplete_pump {s : State} (hs : s.StreamsOrComplete) (p : List (Option Answer)) :
    (pump p s).StreamsOrComplete :=
  pump_induction (P := State.StreamsOrComplete) (fun _ _ h => h)
    (fun _ h a _ hs => streamsOrComplete_answered hs h a) p hs

theorem streamsOrComplete_transfer {s : State} (hs : s.StreamsOrComplete) (h : Hold) :
    (s.transfer h).StreamsOrComplete :=
  streamsOrComplete_pump (s := { s with hold := some h }) hs s.port

/-- R225 check 3: while Streaming the commands that need the surface or a new pass fault. -/
theorem exec_phase_of_streaming {i : Instr} {s : State} (hfault : s.fault = false)
    (hst : s.st = .streaming) (h : needsIdle i = true) :
    exec i s = .next (s.faulted 0x02#8 (encode i)) := by
  cases i with
  | clear | fade | scroll delta | begin | addr | frame =>
    exact runCommand_phase_of_streaming hfault hst _ _
  | spr k => exact ((drawsSprite_spr k).exceptions hfault).1 hst
  | sprb k => exact ((drawsSprite_sprb k).exceptions hfault).1 hst
  | spr2 k => exact ((drawsSprite_spr2 k).exceptions hfault).1 hst
  | sprb2 k => exact ((drawsSprite_sprb2 k).exceptions hfault).1 hst
  | glyph code => exact exec_glyph_of_streaming hfault hst code
  | mclr | madd code | batch | send => cases h

theorem streamsOrComplete_runCommand {i : Instr} {s t effect : State} {check : Option FaultCode}
    (hs : s.StreamsOrComplete) (h : runCommand i s check effect = .next t)
    (heffect : effect.StreamsOrComplete) : t.StreamsOrComplete :=
  runCommand_keeps h hs (fun _ _ => hs) fun _ => heffect

/-- From Streaming a command leaves the pass going, or complete. -/
theorem streamsOrComplete_exec {i : Instr} {s t : State} (hst : s.st = .streaming)
    (h : exec i s = .next t) : t.StreamsOrComplete := by
  have hs : s.StreamsOrComplete := .inl hst
  cases i with
  | mclr =>
    rw [exec_mclr] at h
    exact streamsOrComplete_runCommand hs h hs
  | madd code =>
    simp only [exec, execMadd] at h
    split at h <;> exact streamsOrComplete_runCommand hs h hs
  | batch => exact streamsOrComplete_runCommand hs h (streamsOrComplete_produceBatch hst)
  | send => exact streamsOrComplete_runCommand hs h (streamsOrComplete_transfer hs _)
  | _ =>
    cases hfault : s.fault with
    | false =>
      rw [exec_phase_of_streaming hfault hst rfl] at h
      cases h
      exact hs
    | true =>
      rw [exec_of_faulted hfault] at h
      cases h
      exact hs

/-! ### What a step does to ST -/

@[simp] theorem raiseFault_st (s : State) (code : FaultCode) (info : Word) :
    (s.raiseFault code info).st = s.st := by
  rw [State.raiseFault]
  split <;> rfl

@[simp] theorem badAccess_st (s : State) (off : Nat) (kind : AccessKind) :
    (badAccess s off kind).st = s.st := by
  cases kind with
  | read => exact raiseFault_st s _ _
  | write v => exact raiseFault_st s _ _

theorem writeReg_st {s t : State} {v : Word} {r : Reg} (h : s.writeReg v r = some t) :
    t.st = s.st := by
  obtain rfl | rfl | rfl := writeReg_cases h <;> rfl

/-- A write that reaches CMD is the host's CMD write of its value. -/
theorem eq_cmdWrite {c : Config} {a : HostAccess} {off : Nat} {w : Word}
    (hoff : blockOffset c a.addr = some off) (hkind : a.kind = .write w)
    (hreg : accessedReg off a.bits = some .cmd) : a = cmdWrite c w := by
  obtain ⟨addr, bits, kind⟩ := a
  obtain ⟨rfl, rfl⟩ := accessedReg_eq_some_iff.1 hreg
  simp only [blockOffset, Option.ite_none_right_eq_some, Option.some.injEq] at hoff
  obtain ⟨⟨hbase, -⟩, haddr⟩ := hoff
  have haddr : addr = c.base + 0x18 := by
    rw [show (0x18 : Nat) = addr - c.base from haddr.symm, Nat.add_sub_cancel' hbase]
  subst haddr hkind
  rfl

/-- A host access leaves ST as it is, unless it is a CMD write of a command's word. -/
theorem hostAccess_st_cases {a : HostAccess} {s t : State} (h : hostAccess a s = .next t) :
    t.st = s.st ∨ ∃ w i, a = cmdWrite s.cfg w ∧ decode w = .ok i ∧ exec i s = .next t := by
  obtain ⟨off, hoff, ⟨w, hkind, hreg, hrun⟩ | ⟨v, r, -, -, hwrite⟩ | ⟨v, r, -, -, -, rfl⟩ | rfl⟩ :=
    hostAccess_cases h
  · rw [commandWrite] at hrun
    split at hrun
    next =>
      cases hrun
      exact .inl (raiseFault_st s _ _)
    next i hi => exact .inr ⟨w, i, eq_cmdWrite hoff hkind hreg, hi, hrun⟩
  · exact .inl (writeReg_st hwrite)
  · exact .inl rfl
  · exact .inl (badAccess_st s _ _)

theorem step_of_reset {s : State} (h : s.resetAsserted = true) :
    step s = .next s.samplePin.platformReset := by
  simp only [step, runStep, h, if_true]

/-- Short of a reset, a step leaves ST as it is, unless it goes on with a command in progress or runs a
command. -/
theorem step_st_cases {s t : State} (hreset : s.resetAsserted = false) (h : step s = .next t) :
    t.st = s.st ∨ (s.hold ≠ none ∧ t = pump s.port s.samplePin) ∨
    ∃ w i rest, s.AboutToAccess (cmdWrite s.cfg w) rest ∧ decode w = .ok i ∧
      exec i (s.taken rest) = .next t := by
  obtain ⟨hr, -⟩ | ⟨-, hhold, rfl⟩ | ⟨-, -, -, rfl⟩ | ⟨-, hhold, a, rest, hbus, ha⟩ := step_cases h
  · rw [hreset] at hr
    cases hr
  · exact .inr (.inl ⟨hhold, rfl⟩)
  · exact .inl rfl
  · obtain hst | ⟨w, i, rfl, hi, hexec⟩ := hostAccess_st_cases ha
    · exact .inl hst
    · exact .inr (.inr ⟨w, i, rest, ⟨hreset, hhold, hbus⟩, hi, hexec⟩)

/-! ### The obligation about passes -/

theorem begin_or_frame_of_exec {i : Instr} {s t : State} (h : exec i s = .next t) (hidle : s.st = .idle)
    (hst : t.st = .streaming) : i = .begin ∨ i = .frame := by
  by_contra! hne
  cases hst.symm.trans (exec_st_of_idle hidle h hne.1 hne.2)

/-- An idle block is at rest, or goes on with a FRAME that has not begun its pass. -/
theorem restsIdle_or_beforePass {s : State} (hidle : s.st = .idle) :
    s.RestsIdle ∨ ∃ failed, s.hold = some .frameColumn ∨ s.hold = some (.frameRow failed) := by
  rcases hhold : s.hold with _ | h
  · exact .inl ⟨hidle, by simp [hhold]⟩
  · cases h with
    | frameColumn => exact .inr ⟨false, .inl rfl⟩
    | frameRow failed => exact .inr ⟨failed, .inr rfl⟩
    | send | addrColumn | addrRow failed | frameData failed =>
      exact .inl ⟨hidle, by simp [hhold, Hold.beforePass]⟩

/-- A step that starts a pass goes on with a FRAME that has not begun its pass, or runs BEGIN or FRAME. -/
theorem pass_start_of_step {s t : State} (h : step s = .next t) (hidle : s.st = .idle)
    (hst : t.st = .streaming) :
    (∃ failed, s.hold = some .frameColumn ∨ s.hold = some (.frameRow failed)) ∨
    ∃ w rest, s.AboutToAccess (cmdWrite s.cfg w) rest ∧
      (decode w = .ok .begin ∨ decode w = .ok .frame) := by
  cases hreset : s.resetAsserted with
  | true =>
    rw [step_of_reset hreset] at h
    cases h
    cases hst
  | false =>
    obtain heq | ⟨-, rfl⟩ | ⟨w, i, rest, ha, hi, hexec⟩ := step_st_cases hreset h
    · cases hst.symm.trans (heq.trans hidle)
    · obtain hrests | hframe := restsIdle_or_beforePass (s := s.samplePin) hidle
      · cases hst.symm.trans (restsIdle_pump hrests s.port).idle
      · exact .inl hframe
    · obtain rfl | rfl := begin_or_frame_of_exec hexec hidle hst
      · exact .inr ⟨w, rest, ha, .inl hi⟩
      · exact .inr ⟨w, rest, ha, .inr hi⟩

/-- A step that ends a pass, short of a reset, has produced its last batch. -/
theorem pass_end_of_step {s t : State} (hst : s.st = .streaming) (hreset : s.resetAsserted = false)
    (h : step s = .next t) (hidle : t.st = .idle) : t.nb.toNat = t.cfg.nbFrame := by
  have hend : t.StreamsOrComplete := by
    obtain heq | ⟨-, rfl⟩ | ⟨w, i, rest, -, -, hexec⟩ := step_st_cases hreset h
    · exact .inl (heq.trans hst)
    · exact streamsOrComplete_pump (s := s.samplePin) (.inl hst) s.port
    · exact streamsOrComplete_exec (s := s.taken rest) hst hexec
  exact hend.resolve_left (by rw [hidle]; nofun)

/-- Settles O47: the four sentences of R182. -/
theorem passesBeginAndEndByTheRules : Obligations.PassesBeginAndEndByTheRules := by
  unfold Obligations.PassesBeginAndEndByTheRules
  exact ⟨fun _ _ _ => begin_or_frame_of_exec, fun _ _ => pass_start_of_step,
    fun _ _ => pass_end_of_step, fun _ _ => exec_phase_of_streaming⟩

end Sys2Proof.Machine

/-! SUPPORT. The checks of a CMD write (spec/60_exceptions.md R225): a decoded word is the encoding of its
command, the check each command makes is the first fault of R225's list, no effect raises a fault; and the
obligation about the check order. -/

namespace Sys2Proof.Machine

open Sys2Proof

/-! ### A decoded word is its command's encoding (R81, R85) -/

theorem fields_of_formatN {opc : BitVec 8} {i : Instr} (h : formatN opc = some i) :
    opcode i = opc ∧ immediate i = 0#16 := by
  unfold formatN at h
  split at h <;> cases h <;> exact ⟨BitVec.eq_of_toNat_eq (Eq.symm ‹_›), rfl⟩

theorem fields_of_formatI {opc : BitVec 8} {imm : BitVec 16} {i : Instr}
    (h : formatI opc imm = some i) : opcode i = opc ∧ immediate i = imm := by
  unfold formatI at h
  split at h <;> cases h <;>
    exact ⟨BitVec.eq_of_toNat_eq (Eq.symm ‹_›), by simp [immediate]⟩

/-- FAULT_INFO of a command's fault, which is the command's encoding, is the word written (R223). -/
theorem encode_of_decode {w : Word} {i : Instr} (h : decode w = .ok i) : encode i = w := by
  have hfields : opcode i = opcField w ∧ rsvField w = 0#8 ∧ immediate i = immField w := by
    obtain ⟨hN, hrsv, himm⟩ | ⟨hI, hrsv⟩ := decode_ok_cases h
    · obtain ⟨hopc, hzero⟩ := fields_of_formatN hN
      exact ⟨hopc, hrsv, hzero.trans himm.symm⟩
    · obtain ⟨hopc, himm⟩ := fields_of_formatI hI
      exact ⟨hopc, hrsv, himm⟩
  obtain ⟨hopc, hrsv, himm⟩ := hfields
  rw [encode, hopc, himm, ← hrsv, word_fields]

/-! ### The effects of commands leave FAULT as it is -/

theorem SurfOnly.fault_eq {s t : State} (h : SurfOnly s t) : t.fault = s.fault := by
  obtain ⟨m, rfl⟩ := h
  rfl

theorem produceBatch_fault (s : State) : (produceBatch s).fault = s.fault := by
  obtain ⟨m, p, c, h⟩ := produceBatch_frame s
  rw [h]

/-! ### The first fault, by kind of command (R225 checks 3 to 8) -/

section

variable {i : Instr} {s : State}

/-- Check 3 comes first for the commands that need an Idle block; their other checks are seen when Idle. -/
theorem firstFault_of_needsIdle {check : Option FaultCode} (h : needsIdle i = true)
    (hrest : s.st = .idle → firstFault s i = check.map FaultCode.bits) :
    firstFault s i = (s.phaseCheck.or check).map FaultCode.bits := by
  cases hst : s.st with
  | streaming =>
    rw [phaseCheck_of_streaming hst]
    simp [firstFault, h, hst, FaultCode.bits]
  | idle => rw [phaseCheck_of_idle hst, Option.none_or, hrest hst]

/-- PHASE is the only fault of a command that needs an Idle block and has no fault in one. -/
theorem firstFault_of_phase_only (h : needsIdle i = true)
    (hrest : s.st = .idle → firstFault s i = none) :
    firstFault s i = s.phaseCheck.map FaultCode.bits := by
  rw [firstFault_of_needsIdle (check := none) h hrest, Option.or_none]

/-- A command that needs an Idle block and draws neither a sprite nor a glyph makes check 3 only. -/
theorem firstFault_of_no_drawing (h : needsIdle i = true) (hsprite : spriteOperands i = none)
    (hglyph : ∀ code, i ≠ .glyph code) : firstFault s i = s.phaseCheck.map FaultCode.bits := by
  refine firstFault_of_phase_only h fun hst => ?_
  have hbatch : i ≠ .batch := by rintro rfl; cases h
  have hsend : i ≠ .send := by rintro rfl; cases h
  simp [firstFault, hst, hbatch, hsend, hsprite]

/-- Checks 3 to 5: a sprite command's fault is PHASE, then SPRITE_INDEX, then SPRITE_HBOUNDS. -/
theorem firstFault_of_sprite {k sc : Nat} (hidle : needsIdle i = true)
    (hop : spriteOperands i = some (k, sc)) :
    firstFault s i = (s.phaseCheck.or (s.spriteCheck k sc)).map FaultCode.bits := by
  refine firstFault_of_needsIdle hidle fun hst => ?_
  have hbatch : i ≠ .batch := by rintro rfl; cases hop
  cases hk : s.cfg.sprites[k]? with
  | none =>
    rw [spriteCheck_of_unknown (List.getElem?_eq_none_iff.1 hk)]
    simp [firstFault, hst, hbatch, hop, hk, FaultCode.bits]
  | some d =>
    rw [spriteCheck_of_known hk, apply_ite (Option.map FaultCode.bits)]
    simp [firstFault, hst, hbatch, hop, hk, FaultCode.bits]

/-- Check 6: a code out of range has no fault but PHASE. -/
theorem firstFault_of_unknown_glyph {code : Nat} (h : glyphLookup s.cfg code = none) :
    firstFault s (.glyph code) = s.phaseCheck.map FaultCode.bits :=
  firstFault_of_phase_only rfl fun hst => by simp [firstFault, spriteOperands, hst, h]

/-- Check 7: the box test of a known glyph follows PHASE. -/
theorem firstFault_of_known_glyph {code : Nat} {d : Descriptor}
    (h : glyphLookup s.cfg code = some d) :
    firstFault s (.glyph code) = (s.phaseCheck.or (s.glyphCheck d)).map FaultCode.bits := by
  refine firstFault_of_needsIdle rfl fun hst => ?_
  by_cases hfits : s.GlyphFits d
  · rw [glyphCheck_of_fits hfits]
    simp [firstFault, spriteOperands, hst, h, hfits]
  · rw [glyphCheck_of_not_fits hfits]
    simp [firstFault, spriteOperands, hst, h, hfits, FaultCode.bits]

theorem firstFault_mclr : firstFault s .mclr = none := by
  simp [firstFault, needsIdle, spriteOperands]

theorem firstFault_madd (code : Nat) : firstFault s (.madd code) = none := by
  simp [firstFault, needsIdle, spriteOperands]

theorem firstFault_batch : firstFault s .batch = s.streamingCheck.map FaultCode.bits := by
  cases hst : s.st <;>
    simp [firstFault, needsIdle, spriteOperands, State.streamingCheck, hst, FaultCode.bits]

theorem firstFault_send : firstFault s .send = s.batchCheck.map FaultCode.bits := by
  cases hvalid : s.batchValid <;>
    simp [firstFault, needsIdle, spriteOperands, State.batchCheck, hvalid, FaultCode.bits]

end

/-! ### Every command makes the checks of R225, and its effect raises no fault -/

/-- On `s` the command `i` is an effect that leaves FAULT as it is, under R225's first fault. -/
def ChecksFirstFault (i : Instr) (s : State) : Prop :=
  ∃ check effect, exec i s = runCommand i s check effect ∧
    firstFault s i = check.map FaultCode.bits ∧ effect.fault = s.fault

theorem DrawsSprite.checksFirstFault {i : Instr} {k sc : Nat}
    {row : Descriptor → State → Nat → State} (hi : DrawsSprite i k sc row)
    (hrow : StoresInRow sc row) (hidle : needsIdle i = true)
    (hop : spriteOperands i = some (k, sc)) (s : State) : ChecksFirstFault i s :=
  ⟨_, _, hi s, firstFault_of_sprite hidle hop, (surfOnly_drawSprite hrow.surfOnly s k sc).fault_eq⟩

theorem checksFirstFault_glyph (code : Nat) (s : State) : ChecksFirstFault (.glyph code) s := by
  rw [ChecksFirstFault]
  simp only [exec, execGlyph]
  split
  next h => exact ⟨_, _, rfl, firstFault_of_unknown_glyph h, rfl⟩
  next d h => exact ⟨_, _, rfl, firstFault_of_known_glyph h, (surfOnly_drawGlyph d s).fault_eq⟩

theorem checksFirstFault_madd (code : Nat) (s : State) : ChecksFirstFault (.madd code) s := by
  rw [ChecksFirstFault]
  simp only [exec, execMadd]
  split <;> exact ⟨none, _, rfl, firstFault_madd code, rfl⟩

theorem checksFirstFault (i : Instr) (s : State) : ChecksFirstFault i s := by
  cases i with
  | clear =>
    exact ⟨_, _, rfl, firstFault_of_no_drawing rfl rfl nofun, (surfOnly_clearSurface s).fault_eq⟩
  | fade =>
    exact ⟨_, _, rfl, firstFault_of_no_drawing rfl rfl nofun, (surfOnly_fadeSurface s).fault_eq⟩
  | scroll delta =>
    exact ⟨_, _, rfl, firstFault_of_no_drawing rfl rfl nofun, (surfOnly_scrollRows s _).fault_eq⟩
  | spr k => exact (drawsSprite_spr k).checksFirstFault storesInRow_sprRow rfl rfl s
  | sprb k => exact (drawsSprite_sprb k).checksFirstFault storesInRow_sprbRow rfl rfl s
  | spr2 k => exact (drawsSprite_spr2 k).checksFirstFault storesInRow_spr2Row rfl rfl s
  | sprb2 k => exact (drawsSprite_sprb2 k).checksFirstFault storesInRow_sprb2Row rfl rfl s
  | glyph code => exact checksFirstFault_glyph code s
  | mclr => exact ⟨none, _, exec_mclr s, firstFault_mclr, rfl⟩
  | madd code => exact checksFirstFault_madd code s
  | begin => exact ⟨_, _, rfl, firstFault_of_no_drawing rfl rfl nofun, rfl⟩
  | batch => exact ⟨_, _, rfl, firstFault_batch, produceBatch_fault s⟩
  | send => exact ⟨_, _, rfl, firstFault_send, (transferOnly_transfer s _).fault⟩
  | addr =>
    exact ⟨_, _, rfl, firstFault_of_no_drawing rfl rfl nofun, (transferOnly_transfer s _).fault⟩
  | frame =>
    exact ⟨_, _, rfl, firstFault_of_no_drawing rfl rfl nofun, (transferOnly_transfer s _).fault⟩

/-! ### A command with and without a first fault -/

section

variable {i : Instr} {s : State}

/-- The first fault that applies is the one raised, with the command's word (R223). -/
theorem exec_of_firstFault {code : BitVec 8} (hfault : s.fault = false)
    (h : firstFault s i = some code) : exec i s = .next (s.faulted code (encode i)) := by
  obtain ⟨check, effect, hexec, hfirst, -⟩ := checksFirstFault i s
  obtain ⟨c, rfl, rfl⟩ := Option.map_eq_some_iff.1 (hfirst.symm.trans h)
  rw [hexec, runCommand_of_check hfault]

/-- Check 9: where no fault applies the command completes and raises none. -/
theorem exec_of_no_firstFault (hfault : s.fault = false) (h : firstFault s i = none) :
    ∃ t, exec i s = .next t ∧ t.fault = false := by
  obtain ⟨check, effect, hexec, hfirst, hkeeps⟩ := checksFirstFault i s
  obtain rfl := Option.map_eq_none_iff.1 (hfirst.symm.trans h)
  exact ⟨effect, by rw [hexec, runCommand_of_clear hfault], hkeeps.trans hfault⟩

end

/-! ### The obligation -/

/-- Check 1: while FAULT is 1 a CMD write has no effect, whatever the word (R224). -/
theorem step_of_faulted_cmdWrite {s : State} {w : Word} {rest : List HostAccess}
    (ha : s.AboutToAccess (cmdWrite s.cfg w) rest) (hfault : s.fault = true) :
    step s = .next (s.taken rest) := by
  have htaken : (s.taken rest).fault = true := by rw [State.taken_fault, hfault]
  cases hd : decode w with
  | error e => simp [step_of_cmdWrite ha, commandWrite, hd, raiseFault_of_faulted htaken]
  | ok i => rw [step_of_command ha hd, exec_of_faulted htaken]

/-- No check of R225 reads the host's accesses or the reset input. -/
theorem firstFault_taken (s : State) (rest : List HostAccess) (i : Instr) :
    firstFault (s.taken rest) i = firstFault s i := rfl

/-- Settles O7: every command is its effect under R225's first fault, and no effect raises a fault. -/
theorem checksInOrder : Obligations.ChecksInOrder := by
  unfold Obligations.ChecksInOrder
  refine fun s w rest ha => ⟨step_of_faulted_cmdWrite ha, fun hfault =>
    ⟨fun e => step_of_illegal_word ha hfault, fun i code hd hfirst => ?_, fun i hd hfirst => ?_⟩⟩
  · rw [← firstFault_taken s rest] at hfirst
    rw [step_of_command ha hd, ← encode_of_decode hd]
    exact exec_of_firstFault hfault hfirst
  · rw [← firstFault_taken s rest] at hfirst
    obtain ⟨t, hexec, ht⟩ := exec_of_no_firstFault (s := s.taken rest) hfault hfirst
    have hstep := step_of_command ha hd
    exact ⟨hstep, t, hstep.trans hexec, ht⟩

end Sys2Proof.Machine

/-! SUPPORT. The encoder against the decoder (spec/30_encoding.md R81 to R88): each format's commands
decode from their own words, a decoded operand fits its field; and the obligations about encoding. -/

namespace Sys2Proof.Machine

open Sys2Proof

/-! ### A command's own word (R82, R88) -/

theorem decode_encode_of_formatN {i : Instr} (h : formatN (opcode i) = some i)
    (himm : immediate i = 0#16) : decode (encode i) = .ok i :=
  decode_of_formatN (by rw [opcField_encode, h]) (rsvField_encode i) (by rw [immField_encode, himm])

theorem decode_encode_of_formatI {i : Instr} (hN : formatN (opcode i) = none)
    (h : formatI (opcode i) (immediate i) = some i) : decode (encode i) = .ok i :=
  decode_of_formatI (by rw [opcField_encode, hN]) (by rw [opcField_encode, immField_encode, h])
    (rsvField_encode i)

/-! ### Operands and the field IMM (R83) -/

theorem toNat_immediate {k : Nat} (h : k < 65536) : (BitVec.ofNat 16 k).toNat = k :=
  Nat.mod_eq_of_lt h

theorem toInt_immediate {d : Int} (hlo : -32768 ≤ d) (hhi : d ≤ 32767) :
    (BitVec.ofInt 16 d).toInt = d :=
  BitVec.toInt_ofInt_eq_self (by decide) hlo (by omega)

theorem wf_of_formatN {opc : BitVec 8} {i : Instr} (h : formatN opc = some i) : i.wf = true := by
  unfold formatN at h
  split at h <;> cases h <;> rfl

/-- Every value of IMM is a legal operand. -/
theorem wf_of_formatI {opc : BitVec 8} {imm : BitVec 16} {i : Instr} (h : formatI opc imm = some i) :
    i.wf = true := by
  have hnat : imm.toNat < 65536 := imm.isLt
  have hlo : -32768 ≤ imm.toInt := imm.le_toInt
  have hhi : imm.toInt < 32768 := imm.toInt_lt
  unfold formatI at h
  split at h <;> cases h <;> simp only [Instr.wf, Bool.and_eq_true, decide_eq_true_eq] <;> omega

theorem wf_of_decode {w : Word} {i : Instr} (h : decode w = .ok i) : i.wf = true := by
  obtain ⟨hN, -⟩ | ⟨hI, -⟩ := decode_ok_cases h
  · exact wf_of_formatN hN
  · exact wf_of_formatI hI

/-! ### The obligations -/

/-- Settles O1: a command's word carries its opcode, which tells its format, and its operand, which the
range of R83 lets IMM carry in full. -/
theorem decodeOfEncode : Obligations.DecodeOfEncode := by
  unfold Obligations.DecodeOfEncode
  intro i hwf
  cases i with
  | clear | fade | mclr | begin | batch | send | addr | frame => exact decode_encode_of_formatN rfl rfl
  | scroll d =>
    simp only [Instr.wf, Bool.and_eq_true, decide_eq_true_eq] at hwf
    obtain ⟨hlo, hhi⟩ := hwf
    exact decode_encode_of_formatI rfl (by simp [formatI, opcode, immediate, toInt_immediate hlo hhi])
  | spr k | sprb k | spr2 k | sprb2 k | glyph k | madd k =>
    have hk := toNat_immediate (of_decide_eq_true hwf)
    exact decode_encode_of_formatI rfl (by simp only [formatI, opcode, immediate, hk]; rfl)

/-- Settles O2: the three fields of a word that decodes are those of its command. -/
theorem encodeOfDecode : Obligations.EncodeOfDecode := by
  unfold Obligations.EncodeOfDecode
  exact fun _ _ h => ⟨encode_of_decode h, wf_of_decode h⟩

/-- Settles O3: the decoder's opcodes are the table's, and no two rows have one opcode. -/
theorem wordsAreTableRowsOrIllegal : Obligations.WordsAreTableRowsOrIllegal := by
  unfold Obligations.WordsAreTableRowsOrIllegal
  refine ⟨fun w => ⟨fun ⟨_, h⟩ => matches_row_of_decode h, fun ⟨_, hrow, h⟩ =>
    decode_of_matches_row hrow h⟩, fun w r1 h1 r2 h2 hw1 hw2 => row_unique_of_matches h2 hw2 h1 hw1⟩

/-- Settles O4: the decoder runs on the nine words. -/
theorem sampleWordsDecode : Obligations.SampleWordsDecode := by
  unfold Obligations.SampleWordsDecode
  decide

end Sys2Proof.Machine

/-! SUPPORT. The admitted configurations (spec/00_scope.md R6 to R8): what `Config.wf` says, and the
sizes of the surface and of a pass that follow; and the obligation about chunks. -/

namespace Sys2Proof.Machine

open Sys2Proof

/-! ### The conditions of R6 and R8 -/

/-- The conditions an admitted configuration meets, but for those on the asset tables (R6, R8). -/
structure Admitted (c : Config) : Prop where
  ss_cases : c.ss = 1 ∨ c.ss = 2
  nw_pos : 1 ≤ c.nw
  nw_le : c.nw ≤ 16383
  nh_pos : 1 ≤ c.nh
  nh_le : c.nh ≤ 16383
  width_even : c.surfWidth % 2 = 0
  chunks_exact : c.surfBytes % c.chunkBytes = 0
  chunk_pos : 4 ≤ c.chunkBytes
  chunk_mod : c.chunkBytes % 4 = 0
  surfBytes_lt : c.surfBytes < 2 ^ 24
  chunk_le : c.chunkBytes ≤ 65532
  nbFrame_le : c.nbFrame ≤ 65535
  sprites_pos : 1 ≤ c.spriteCount
  sprites_le : c.spriteCount ≤ 65536
  codes_le : c.firstCode ≤ c.lastCode
  lastCode_le : c.lastCode ≤ 0xFFFF

theorem admitted_of_wf {c : Config} (h : c.wf = true) : Admitted c := by
  simp only [Config.wf, Bool.and_eq_true, Config.ssOk, Config.rangesOk, Config.widthEven,
    Config.chunksExact, Config.chunkOk, Config.sizesOk, Config.tablesOk, decide_eq_true_eq] at h
  obtain ⟨⟨⟨⟨⟨⟨⟨⟨hss, hnw, hnw', hnh, hnh', -⟩, heven⟩, hchunks⟩, hchunk, hmod⟩, -⟩, -, -, hbytes,
    hchunk', hnb⟩, hspr, hspr', hcodes, hlast, -⟩, -⟩ := h
  exact ⟨hss, hnw, hnw', hnh, hnh', heven, hchunks, hchunk, hmod, hbytes, hchunk', hnb, hspr, hspr',
    hcodes, hlast⟩

/-! ### The surface at the two supersampling factors (R7) -/

section

variable {c : Config}

theorem nw_eq_of_ss_one (h : Admitted c) (hss : c.ss = 1) : c.nw = 2 * c.stride := by
  have heven := h.width_even
  simp only [Config.stride, Config.surfWidth, hss, Nat.mul_one] at heven ⊢
  omega

theorem stride_eq_of_ss_two (hss : c.ss = 2) : c.stride = c.nw := by
  rw [Config.stride, Config.surfWidth, hss, Nat.mul_div_cancel _ (by decide)]

theorem surfHeight_of_ss_one (hss : c.ss = 1) : c.surfHeight = c.nh := by
  rw [Config.surfHeight, hss, Nat.mul_one]

theorem surfBytes_of_ss_one (hss : c.ss = 1) : c.surfBytes = c.stride * c.nh := by
  rw [Config.surfBytes, surfHeight_of_ss_one hss]

theorem surfBytes_of_ss_two (hss : c.ss = 2) : c.surfBytes = c.nw * c.nh * 2 := by
  rw [Config.surfBytes, stride_eq_of_ss_two hss, Config.surfHeight, hss, Nat.mul_assoc]

theorem frameOutBytes_of_ss_one (h : Admitted c) (hss : c.ss = 1) :
    c.frameOutBytes = 4 * c.surfBytes := by
  rw [Config.frameOutBytes, surfBytes_of_ss_one hss, nw_eq_of_ss_one h hss]
  ring

theorem frameOutBytes_of_ss_two (hss : c.ss = 2) : c.frameOutBytes = c.surfBytes := by
  rw [Config.frameOutBytes, surfBytes_of_ss_two hss]

/-! ### The batches of a pass (R7, R191) -/

theorem chunkBytes_eq_batchPixels (h : Admitted c) : c.chunkBytes = 2 * c.batchPixels := by
  have hmod := h.chunk_mod
  rw [Config.batchPixels]
  omega

theorem chunkBytes_dvd_frameOutBytes (h : Admitted c) : c.chunkBytes ∣ c.frameOutBytes := by
  have hsurf : c.chunkBytes ∣ c.surfBytes := Nat.dvd_of_mod_eq_zero h.chunks_exact
  obtain hss | hss := h.ss_cases
  · rw [frameOutBytes_of_ss_one h hss]
    exact hsurf.mul_left 4
  · rwa [frameOutBytes_of_ss_two hss]

theorem nbFrame_mul_chunkBytes (h : Admitted c) : c.nbFrame * c.chunkBytes = c.frameOutBytes :=
  Nat.div_mul_cancel (chunkBytes_dvd_frameOutBytes h)

/-- A pass's batches carry the frame's pixels exactly. -/
theorem nbFrame_mul_batchPixels (h : Admitted c) : c.nbFrame * c.batchPixels = c.nw * c.nh := by
  have hbytes := nbFrame_mul_chunkBytes h
  rw [chunkBytes_eq_batchPixels h, Config.frameOutBytes] at hbytes
  linarith

theorem nbFrame_pos (h : Admitted c) : 0 < c.nbFrame := by
  have hpixels : 0 < c.nbFrame * c.batchPixels := by
    rw [nbFrame_mul_batchPixels h]
    exact Nat.mul_pos h.nw_pos h.nh_pos
  exact Nat.pos_of_mul_pos_right hpixels

end

/-- Settles O23: CHUNK_BYTES divides SURF_BYTES, and the frame is one SURF_BYTES or four of them. -/
theorem frameIsWholeChunks : Obligations.FrameIsWholeChunks := by
  unfold Obligations.FrameIsWholeChunks
  intro c hwf
  have h := admitted_of_wf hwf
  have hframe := nbFrame_mul_chunkBytes h
  exact ⟨nbFrame_pos h, hframe, fun hss => hframe.trans (frameOutBytes_of_ss_two hss),
    fun hss => hframe.trans (frameOutBytes_of_ss_one h hss)⟩

end Sys2Proof.Machine

/-! SUPPORT. What the host's accesses and the reset input do (spec/10_state.md R30 to R46,
spec/20_memory.md R50 to R54, spec/60_exceptions.md R220 to R226, spec/70_reset_and_hazards.md R250):
registers as numbers, writes that are stored, accesses of a faulted block, accesses that do not reach
the block; and the obligations about them. -/

namespace Sys2Proof.Machine

open Sys2Proof

/-! ### Registers as numbers (R30 to R46) -/

/-- Two 16-bit fields are one number, the high one times 2^16. -/
theorem pair16_eq_ofNat (hi lo : BitVec 16) :
    pair16 hi lo = BitVec.ofNat 32 (hi.toNat * 65536 + lo.toNat) := by
  have hhi := hi.isLt
  have hlo := lo.isLt
  apply BitVec.eq_of_toNat_eq
  rw [pair16, toNat_append_eq_mul_add, BitVec.toNat_ofNat]
  omega

theorem pair16_ofNat {hi lo : Nat} (hhi : hi < 65536) (hlo : lo < 65536) :
    pair16 (BitVec.ofNat 16 hi) (BitVec.ofNat 16 lo) = BitVec.ofNat 32 (hi * 65536 + lo) := by
  rw [pair16_eq_ofNat, BitVec.toNat_ofNat, BitVec.toNat_ofNat, Nat.mod_eq_of_lt hhi, Nat.mod_eq_of_lt hlo]

theorem word_eq_ofNat (w : Word) : w = BitVec.ofNat 32 w.toNat := by
  rw [BitVec.ofNat_toNat, BitVec.setWidth_eq]

theorem toNat_flagBit (b : Bool) : (flagBit b).toNat = b.toNat := by cases b <;> rfl

theorem streamingFlag_eq (st : ScanState) : st.streamingFlag = decide (st = .streaming) := by
  cases st <;> rfl

/-- STATUS as a number: each field at its bit position (R35). -/
theorem statusWord_eq_ofNat (s : State) :
    s.statusWord = BitVec.ofNat 32 (s.nb.toNat * 65536 + s.faultCode.toNat * 256 +
      s.xferFail.toNat * 16 + s.batchValid.toNat * 8 + s.gfound.toNat * 4 + s.fault.toNat * 2 +
      (decide (s.st = .streaming)).toNat) := by
  rw [word_eq_ofNat s.statusWord]
  congr 1
  simp only [State.statusWord, toNat_append_eq_mul_add, toNat_flagBit, streamingFlag_eq,
    BitVec.toNat_ofNat]
  ring

/-- A register of an admitted configuration as a number. -/
theorem readReg_eq_ofNat_of_wf {s : State} (h : Admitted s.cfg) :
    s.readReg .config = some (BitVec.ofNat 32 ((s.cfg.spriteCount - 1) * 65536 + s.cfg.ss)) ∧
    s.readReg .dims = some (BitVec.ofNat 32 (s.cfg.nh * 65536 + s.cfg.nw)) ∧
    s.readReg .chunk = some (BitVec.ofNat 32 (s.cfg.nbFrame * 65536 + s.cfg.chunkBytes)) ∧
    s.readReg .grange = some (BitVec.ofNat 32 (s.cfg.lastCode * 65536 + s.cfg.firstCode)) := by
  have hss := h.ss_cases
  have hnw := h.nw_le
  have hnh := h.nh_le
  have hnb := h.nbFrame_le
  have hchunk := h.chunk_le
  have hsprites := h.sprites_le
  have hcodes := h.codes_le
  have hlast := h.lastCode_le
  exact ⟨congrArg some (pair16_ofNat (by omega) (by omega)),
    congrArg some (pair16_ofNat (by omega) (by omega)),
    congrArg some (pair16_ofNat (by omega) (by omega)),
    congrArg some (pair16_ofNat (by omega) (by omega))⟩

/-- Settles O12: each register's value is its fields in their places, and a legal read answers it. -/
theorem registersReadTheirFields : Obligations.RegistersReadTheirFields := by
  unfold Obligations.RegistersReadTheirFields
  intro s off v rest hwf ha hv
  obtain ⟨hconfig, hdims, hchunk, hgrange⟩ := readReg_eq_ofNat_of_wf (admitted_of_wf hwf)
  obtain ⟨rfl, rfl⟩ | ⟨rfl, rfl⟩ | ⟨rfl, rfl⟩ | ⟨rfl, rfl⟩ | ⟨rfl, rfl⟩ | ⟨rfl, rfl⟩ | ⟨rfl, rfl⟩ |
    ⟨rfl, rfl⟩ | ⟨rfl, rfl⟩ | ⟨rfl, rfl⟩ | ⟨rfl, rfl⟩ | ⟨rfl, rfl⟩ | ⟨rfl, rfl⟩ | ⟨rfl, rfl⟩ := hv
  · exact step_of_read (r := .id) ha (readReg_id s)
  · exact step_of_read (r := .config) ha hconfig
  · exact step_of_read (r := .dims) ha hdims
  · exact step_of_read (r := .chunk) ha hchunk
  · exact step_of_read (r := .grange) ha hgrange
  · exact step_of_read (r := .status) ha (congrArg some (statusWord_eq_ofNat s))
  · exact step_of_read (r := .argXY) ha (congrArg some (word_eq_ofNat _))
  · exact step_of_read (r := .result) ha (congrArg some (pair16_eq_ofNat _ _))
  · exact step_of_read (r := .meas) ha (congrArg some (pair16_eq_ofNat _ _))
  · exact step_of_read (r := .faultInfo) ha (congrArg some (word_eq_ofNat _))
  · exact step_of_read (r := .curPtr) ha (congrArg some (BitVec.ofNat_toNat ..).symm)
  · exact step_of_read (r := .curCol) ha (congrArg some (BitVec.ofNat_toNat ..).symm)
  · exact step_of_read (r := .surfAddr) ha (congrArg some (BitVec.ofNat_toNat ..).symm)
  · exact step_of_read (r := .batchAddr) ha (congrArg some (BitVec.ofNat_toNat ..).symm)

/-! ### Writes that are stored (R37, R43, R45) -/

theorem hostAccess_of_write {s t : State} {r : Reg} {v : Word} (h : s.writeReg v r = some t) :
    hostAccess ⟨s.cfg.base + r.offset, 32, .write v⟩ s = .next t := by
  have hoff : r.offset < 0x80 := r.offset_lt.trans (by decide)
  have hcmd : r ≠ .cmd := by rintro rfl; cases h
  simp [hostAccess, blockOffset_base, hoff, accessedReg_offset, h]

theorem step_of_write {s t : State} {r : Reg} {v : Word} {rest : List HostAccess}
    (ha : s.AboutToAccess ⟨s.cfg.base + r.offset, 32, .write v⟩ rest)
    (h : (s.taken rest).writeReg v r = some t) : step s = .next t :=
  (step_of_access ha).trans (hostAccess_of_write h)

theorem extractLsb'_zero_eq_ofNat {w : Nat} (v : BitVec w) (n : Nat) :
    v.extractLsb' 0 n = BitVec.ofNat n (v.toNat % 2 ^ n) := by
  apply BitVec.eq_of_toNat_eq
  simp

/-- Settles O14: the three operand registers take every write, cut to their own bits. -/
theorem operandRegisterWritesStore : Obligations.OperandRegisterWritesStore := by
  unfold Obligations.OperandRegisterWritesStore
  intro s v rest
  refine ⟨fun ha => step_of_write (r := .argXY) ha rfl, fun ha => ?_, fun ha => ?_⟩
  · rw [← extractLsb'_zero_eq_ofNat]
    exact step_of_write (r := .surfAddr) ha rfl
  · rw [← extractLsb'_zero_eq_ofNat]
    exact step_of_write (r := .batchAddr) ha rfl

/-! ### Commands and faults (R36, R224, R226) -/

/-- Settles O5: a CMD write decodes its word and runs the command. -/
theorem stepRunsDecodedCommand : Obligations.StepRunsDecodedCommand := by
  unfold Obligations.StepRunsDecodedCommand
  exact fun _ _ _ _ ha hdecode => step_of_command ha hdecode

/-- Settles O9: every command is an effect under checks, and check 1 comes first. -/
theorem faultedCommandsHaveNoEffect : Obligations.FaultedCommandsHaveNoEffect := by
  unfold Obligations.FaultedCommandsHaveNoEffect
  exact fun _ _ => exec_of_faulted

/-- Settles O8: no effect raises a fault, so a command that leaves one has failed a check. -/
theorem faultingCommandChangesNothingElse : Obligations.FaultingCommandChangesNothingElse := by
  unfold Obligations.FaultingCommandChangesNothingElse
  intro i s t hclean hexec hfault
  obtain ⟨check, effect, heq, -, hkeeps⟩ := checksFirstFault i s
  obtain ⟨hs, -⟩ | ⟨-, c, -, rfl⟩ | ⟨-, -, rfl⟩ := runCommand_cases (heq.symm.trans hexec)
  · cases hclean.symm.trans hs
  · exact ⟨c, rfl⟩
  · cases hclean.symm.trans (hkeeps.symm.trans hfault)

/-! ### A faulted block (R224, R251) -/

/-- `t` is `s` but for the three operand registers, the host's lists and the reset samples. -/
def OperandsOnly (s t : State) : Prop :=
  ∃ a b c bus reads, t = { s with
    argXY := a, surfAddr := b, batchAddr := c, bus := bus, reads := reads, resetPin := s.resetPin.tail }

theorem commandWrite_of_faulted {s : State} (h : s.fault = true) (w : Word) :
    commandWrite w s = .next s := by
  rw [commandWrite]
  split
  · rw [raiseFault_of_faulted h]
  · exact exec_of_faulted h

theorem badAccess_of_faulted {s : State} (h : s.fault = true) (off : Nat) (kind : AccessKind) :
    badAccess s off kind = s ∨ badAccess s off kind = s.reply 0#32 := by
  cases kind with
  | read => exact .inr (by simp only [badAccess, raiseFault_of_faulted h])
  | write v => exact .inl (by simp only [badAccess, raiseFault_of_faulted h])

theorem operandsOnly_of_access {s t : State} {a : HostAccess} {rest : List HostAccess}
    (hfault : s.fault = true) (h : hostAccess a (s.taken rest) = .next t) : OperandsOnly s t := by
  have htaken : (s.taken rest).fault = true := hfault
  obtain ⟨off, -, ⟨w, -, -, hw⟩ | ⟨v, r, -, -, hw⟩ | ⟨v, r, -, -, -, rfl⟩ | rfl⟩ := hostAccess_cases h
  · rw [commandWrite_of_faulted htaken] at hw
    cases hw
    exact ⟨_, _, _, _, _, rfl⟩
  · obtain rfl | rfl | rfl := writeReg_cases hw <;> exact ⟨_, _, _, _, _, rfl⟩
  · exact ⟨_, _, _, _, _, rfl⟩
  · obtain heq | heq := badAccess_of_faulted htaken off a.kind <;> rw [heq] <;>
      exact ⟨_, _, _, _, _, rfl⟩

/-- Settles O10: a faulted block waits, or performs an access that runs no command and raises nothing. -/
theorem faultStaysUntilReset : Obligations.FaultStaysUntilReset := by
  unfold Obligations.FaultStaysUntilReset
  intro s t hfault hhold hreset h
  obtain ⟨hr, -⟩ | ⟨-, hh, -⟩ | ⟨-, -, -, rfl⟩ | ⟨-, -, a, rest, -, ha⟩ := step_cases h
  · cases hreset.symm.trans hr
  · exact absurd hhold hh
  · exact ⟨s.argXY, s.surfAddr, s.batchAddr, s.bus, s.reads, rfl⟩
  · exact operandsOnly_of_access hfault ha

/-! ### Accesses that do not reach the block (R50) -/

theorem blockOffset_eq_none_iff {c : Config} {addr : Nat} :
    blockOffset c addr = none ↔ addr < c.base ∨ c.base + 0x80 ≤ addr := by
  simp only [blockOffset, ite_eq_right_iff, reduceCtorEq, imp_false]
  omega

theorem commandWrite_answers (w : Word) (s : State) : ∃ t, commandWrite w s = .next t := by
  rw [commandWrite]
  split
  next => exact ⟨_, rfl⟩
  next i _ =>
    obtain ⟨check, effect, heq⟩ := exec_eq_runCommand i s
    rw [heq]
    exact runCommand_answers i s effect check

/-- An access that reaches the block is performed. -/
theorem hostAccess_answers {a : HostAccess} {s : State} {off : Nat}
    (h : blockOffset s.cfg a.addr = some off) : ∃ t, hostAccess a s = .next t := by
  simp only [hostAccess, h]
  split
  next w _ _ => exact commandWrite_answers w s
  next => split <;> exact ⟨_, rfl⟩
  next => split <;> exact ⟨_, rfl⟩
  next => exact ⟨_, rfl⟩

theorem hostAccess_outside {a : HostAccess} {s : State} (h : blockOffset s.cfg a.addr = none) :
    hostAccess a s = .fault .outsideBlock := by
  simp only [hostAccess, h]

theorem step_of_hold {s : State} {h : Hold} (hreset : s.resetAsserted = false) (hhold : s.hold = some h) :
    step s = .next (pump s.port s.samplePin) := by
  simp [step, runStep, runBlock, hreset, hhold]

/-- A step that performs no access answers a next state. -/
theorem step_answers_or_accesses (s : State) :
    (∃ t, step s = .next t) ∨ ∃ a rest, s.AboutToAccess a rest := by
  cases hreset : s.resetAsserted with
  | true => exact .inl ⟨_, step_of_reset hreset⟩
  | false =>
    cases hhold : s.hold with
    | some h => exact .inl ⟨_, step_of_hold hreset hhold⟩
    | none =>
      cases hbus : s.bus with
      | nil => exact .inl ⟨s.samplePin, by simp [step, runStep, runBlock, hreset, hhold, hbus]⟩
      | cons a rest => exact .inr ⟨a, rest, hreset, hhold, hbus⟩

/-- Settles O15: a step that performs no access, or one that reaches the block, answers a next state. -/
theorem stepStopsOnlyOutsideTheBlock : Obligations.StepStopsOnlyOutsideTheBlock := by
  unfold Obligations.StepStopsOnlyOutsideTheBlock
  refine ⟨fun s => ?_, fun s a rest ha hout => ?_⟩
  · obtain hstep | ⟨a, rest, ha⟩ := step_answers_or_accesses s
    · exact .inl hstep
    · rw [step_of_access ha]
      cases hoff : blockOffset s.cfg a.addr with
      | none => exact .inr ⟨hostAccess_outside hoff, a, rest, ha, blockOffset_eq_none_iff.1 hoff⟩
      | some off => exact .inl (hostAccess_answers (s := s.taken rest) hoff)
  · rw [step_of_access ha]
    exact hostAccess_outside (s := s.taken rest) (blockOffset_eq_none_iff.2 hout)

/-! ### Reset (R250) -/

/-- Settles O19: the reset sample is taken first, and an asserted one resets the block. -/
theorem resetAtAnyStep : Obligations.ResetAtAnyStep := by
  unfold Obligations.ResetAtAnyStep
  exact fun _ hreset => step_of_reset hreset

end Sys2Proof.Machine

/-! SUPPORT. What a command, a host access and a step can do, said once (spec/60_exceptions.md R224 to
R226, spec/20_memory.md R60, R64, spec/43_scanout.md R181): a fault is raised, or a command completes
with the effect of its kind, or operand registers are written; and the obligations about what commands
and steps leave alone. -/

namespace Sys2Proof.Machine

open Sys2Proof

/-! ### Sprites and glyphs inside the surface (R60) -/

theorem drawnRow_lt {s : State} {sc j b : Nat} (h : s.drawnRow sc j) (hb : b < sc) :
    s.outRow sc j + b < s.cfg.surfHeight := by
  have hout := outRow_of_drawn h
  simp only [State.drawnRow, Bool.and_eq_true, decide_eq_true_eq] at h
  omega

theorem inSpriteRow_lt {s : State} {d : Descriptor} {sc j i : Nat} (hplaced : ¬ s.SpriteMisplaced d sc)
    (hj : s.drawnRow sc j) (hi : s.InSpriteRow d sc j i) : i < s.cfg.surfBytes := by
  obtain ⟨b, hb, c, hc, rfl⟩ := hi
  rw [State.dst, Nat.add_assoc]
  exact row_address_lt (drawnRow_lt hj hb) (column_lt_stride hplaced hc)

/-- Settles O37: a placed sprite's columns lie inside a row, and a drawn row inside the surface. -/
theorem spriteStoresStayInside : Obligations.SpriteStoresStayInside := by
  unfold Obligations.SpriteStoresStayInside
  exact fun s d sc _ _ hplaced j hj b hb c hc =>
    inSpriteRow_lt hplaced hj ⟨b, hb, c, by rwa [Nat.mul_comm], rfl⟩

theorem pixByte_lt {c : Config} (heven : c.surfWidth % 2 = 0) {x y : Nat} (hx : x < c.surfWidth)
    (hy : y < c.surfHeight) : pixByte c x y < c.surfBytes :=
  row_address_lt hy (half_lt_stride heven hx)

/-! ### Stores keep a memory canonical -/

theorem wf_pokeEach {α : Type} (addr : α → Nat) (f : α → Byte → Byte) (l : List α) {s : State}
    (h : s.surf.wf) : (pokeEach addr f l s).surf.wf := by
  induction l generalizing s with
  | nil => exact h
  | cons a l ih =>
    rw [pokeEach_cons]
    exact ih (Memory.wf_write h _ _)

theorem wf_foldl {α : Type} {f : State → α → State} (hf : ∀ t a, t.surf.wf → (f t a).surf.wf)
    (l : List α) {s : State} (h : s.surf.wf) : (l.foldl f s).surf.wf := by
  induction l generalizing s with
  | nil => exact h
  | cons a l ih => exact ih (hf s a h)

theorem wf_mapSurface (f : Byte → Byte) {s : State} (h : s.surf.wf) : (mapSurface f s).surf.wf :=
  wf_pokeEach _ _ _ h

theorem wf_copyRows (old : State) (p q n : Nat) {s : State} (h : s.surf.wf) :
    (copyRows old p q n s).surf.wf :=
  wf_foldl (fun t k ht => by rw [copyRow_eq]; exact wf_pokeEach _ _ _ ht) _ h

theorem wf_scrollRows (D : Int) {s : State} (h : s.surf.wf) : (scrollRows s D).surf.wf := by
  obtain hD | rfl | hD := lt_trichotomy D 0
  · rw [scrollRows_of_neg s hD]
    exact wf_copyRows _ _ _ _ h
  · rwa [scrollRows_zero]
  · rw [scrollRows_of_pos s hD]
    exact wf_copyRows _ _ _ _ h

theorem wf_mapRow (r n : Nat) (f : Byte → Nat → Byte) {s : State} (h : s.surf.wf) :
    (s.mapRow r n f).surf.wf := by
  rw [mapRow_eq]
  exact wf_pokeEach _ _ _ h

/-- A way to draw source rows keeps the surface canonical. -/
def RowKeepsWf (row : Descriptor → State → Nat → State) : Prop :=
  ∀ d s j, s.surf.wf → (row d s j).surf.wf

theorem rowKeepsWf_sprRow : RowKeepsWf sprRow := fun _ _ _ => wf_mapRow _ _ _

theorem rowKeepsWf_sprbRow : RowKeepsWf sprbRow := fun _ _ _ => wf_mapRow _ _ _

theorem rowKeepsWf_spr2Row : RowKeepsWf spr2Row := fun d s j h => by
  rw [spr2Row_eq]
  exact wf_mapRow _ _ _ (wf_mapRow _ _ _ h)

theorem rowKeepsWf_sprb2Row : RowKeepsWf sprb2Row := fun d s j h => by
  obtain ⟨g, hg⟩ := exists_sprb2Row_eq d s j
  rw [hg]
  exact wf_mapRow _ _ _ (wf_mapRow _ _ _ h)

theorem wf_glyphColumn (d : Descriptor) (j i : Nat) {s : State} (h : s.surf.wf) :
    (glyphColumn d j s i).surf.wf := by
  rw [glyphColumn]
  split
  · exact Memory.wf_write h _ _
  · exact h

theorem wf_drawGlyph (d : Descriptor) {s : State} (h : s.surf.wf) : (drawGlyph d s).surf.wf :=
  wf_foldl (fun _ j ht => wf_foldl (fun _ i hu => wf_glyphColumn d j i hu) _ ht) _ h

/-! ### Drawing -/

/-- `t` is an Idle `s` but for stores to its surface, none of them past the end of it (R60, R64). -/
structure Drawn (s t : State) : Prop where
  idle : s.st = .idle
  surfOnly : SurfOnly s t
  wf : s.surf.wf → t.surf.wf
  outside : s.cfg.wf = true → ∀ i, s.cfg.surfBytes ≤ i → t.surf.read i = s.surf.read i

theorem drawn_refl {s : State} (h : s.st = .idle) : Drawn s s :=
  ⟨h, SurfOnly.refl s, id, fun _ _ _ => rfl⟩

theorem drawn_mapSurface {s : State} (h : s.st = .idle) (f : Byte → Byte) : Drawn s (mapSurface f s) :=
  ⟨h, SurfOnly.foldl (fun t i => surfOnly_pokeSurf t i _) _ s, wf_mapSurface f, fun _ _ =>
    read_mapSurface_outside f s⟩

theorem drawn_scrollRows {s : State} (h : s.st = .idle) (D : Int) : Drawn s (scrollRows s D) :=
  ⟨h, surfOnly_scrollRows s D, wf_scrollRows D, fun _ _ => read_scrollRows_outside s D⟩

/-- The check that a sprite command passes finds its sprite, and finds it placed. -/
theorem placed_of_spriteCheck {s : State} {k sc : Nat} (h : s.spriteCheck k sc = none) :
    ∃ d, s.cfg.sprites[k]? = some d ∧ ¬ s.SpriteMisplaced d sc := by
  cases hk : s.cfg.sprites[k]? with
  | none =>
    rw [spriteCheck_of_unknown (List.getElem?_eq_none_iff.1 hk)] at h
    cases h
  | some d =>
    rw [spriteCheck_of_known hk] at h
    exact ⟨d, rfl, fun hmis => by rw [if_pos hmis] at h; cases h⟩

theorem drawn_drawSprite {s : State} {k sc : Nat} {row : Descriptor → State → Nat → State}
    (hrow : StoresInRow sc row) (hwf : RowKeepsWf row) (h : s.st = .idle)
    (hcheck : s.spriteCheck k sc = none) : Drawn s (drawSprite s k sc row) := by
  obtain ⟨d, hk, hplaced⟩ := placed_of_spriteCheck hcheck
  refine ⟨h, surfOnly_drawSprite hrow.surfOnly s k sc, fun hs => ?_, fun _ i hi => ?_⟩
  · rw [drawSprite_of_known hk]
    exact wf_foldl (hwf d) _ hs
  · exact read_drawSprite_other hrow hk fun j _ hj hmem => (inSpriteRow_lt hplaced hj hmem).not_ge hi

theorem drawn_drawGlyph {s : State} {d : Descriptor} (h : s.st = .idle)
    (hcheck : s.glyphCheck d = none) : Drawn s (drawGlyph d s) := by
  have hfits : s.GlyphFits d := by
    by_contra hnot
    rw [glyphCheck_of_not_fits hnot] at hcheck
    cases hcheck
  obtain ⟨hX, hY, hright, hbottom⟩ := hfits
  refine ⟨h, surfOnly_drawGlyph d s, wf_drawGlyph d, fun hwf i hi => ?_⟩
  refine read_drawGlyph_other fun b hb a ha heq => ?_
  have hin : pixByte s.cfg (s.argX.toNat + a) (s.argY.toNat + b) < s.cfg.surfBytes :=
    pixByte_lt (surfWidth_even_of_wf hwf) (by omega) (by omega)
  omega

/-! ### What a command can do -/

/-- `t` is `s`, or `s` was not faulted and `t` is `s` with a listed fault (R221, R224). -/
def Raises (s t : State) : Prop :=
  t = s ∨ s.fault = false ∧ ∃ (c : FaultCode) (info : Word), t = s.faulted c.bits info

theorem raises_raiseFault (s : State) (c : FaultCode) (info : Word) :
    Raises s (s.raiseFault c info) := by
  cases hf : s.fault with
  | true => exact .inl (raiseFault_of_faulted hf c info)
  | false => exact .inr ⟨hf, c, info, raiseFault_of_clean hf c info⟩

/-- What a command that completes does, by kind of command: the state it starts from and what it
writes. -/
def Completes (s t : State) : Instr → Prop
  | .clear | .fade | .scroll _ | .spr _ | .sprb _ | .spr2 _ | .sprb2 _ => Drawn s t
  | .glyph _ => ∃ u found w h, Drawn s u ∧ t = u.setResult found w h
  | .mclr => t = s.setMeas 0#16 0#16
  | .madd _ => ∃ w h found, t = (s.setMeas w h).setFound found
  | .begin => s.st = .idle ∧ t = beginPass s
  | .batch => s.st = .streaming ∧ t = produceBatch s
  | .send => s.batchValid = true ∧ t = s.transfer .send
  | .addr => s.st = .idle ∧ t = s.transfer .addrColumn
  | .frame => s.st = .idle ∧ t = s.transfer .frameColumn

theorem idle_of_phaseCheck {s : State} (h : s.phaseCheck = none) : s.st = .idle := by
  cases hst : s.st with
  | idle => rfl
  | streaming => rw [phaseCheck_of_streaming hst] at h; cases h

theorem streaming_of_streamingCheck {s : State} (h : s.streamingCheck = none) : s.st = .streaming := by
  cases hst : s.st with
  | streaming => rfl
  | idle => simp [State.streamingCheck, hst] at h

theorem valid_of_batchCheck {s : State} (h : s.batchCheck = none) : s.batchValid = true := by
  simpa [State.batchCheck] using h

theorem runCommand_raises_or {i : Instr} {s t effect : State} {check : Option FaultCode}
    (P : State → Prop) (h : runCommand i s check effect = .next t) (heffect : check = none → P effect) :
    Raises s t ∨ s.fault = false ∧ P t := by
  obtain ⟨-, rfl⟩ | ⟨hf, c, -, rfl⟩ | ⟨hf, hcheck, rfl⟩ := runCommand_cases h
  · exact .inl (.inl rfl)
  · exact .inl (.inr ⟨hf, c, _, rfl⟩)
  · exact .inr ⟨hf, heffect hcheck⟩

theorem runCommand_completes {i : Instr} {s t effect : State} {check : Option FaultCode}
    (h : runCommand i s check effect = .next t) (heffect : check = none → Completes s effect i) :
    Raises s t ∨ s.fault = false ∧ Completes s t i :=
  runCommand_raises_or (Completes s · i) h heffect

theorem DrawsSprite.raises_or_drawn {i : Instr} {k sc : Nat} {row : Descriptor → State → Nat → State}
    (hi : DrawsSprite i k sc row) (hrow : StoresInRow sc row) (hwf : RowKeepsWf row) {s t : State}
    (h : exec i s = .next t) : Raises s t ∨ s.fault = false ∧ Drawn s t := by
  rw [hi] at h
  refine runCommand_raises_or (Drawn s) h fun hcheck => ?_
  obtain ⟨hphase, hsprite⟩ := Option.or_eq_none_iff.1 hcheck
  exact drawn_drawSprite hrow hwf (idle_of_phaseCheck hphase) hsprite

/-- Everything a command can do: nothing but raise a fault, or complete (R224 to R226). -/
theorem exec_cases {i : Instr} {s t : State} (h : exec i s = .next t) :
    Raises s t ∨ s.fault = false ∧ Completes s t i := by
  cases i with
  | clear =>
    exact runCommand_completes h fun hc => drawn_mapSurface (idle_of_phaseCheck hc) fun _ => 0#8
  | fade => exact runCommand_completes h fun hc => drawn_mapSurface (idle_of_phaseCheck hc) fadeByte
  | scroll d => exact runCommand_completes h fun hc => drawn_scrollRows (idle_of_phaseCheck hc) _
  | spr k => exact (drawsSprite_spr k).raises_or_drawn storesInRow_sprRow rowKeepsWf_sprRow h
  | sprb k => exact (drawsSprite_sprb k).raises_or_drawn storesInRow_sprbRow rowKeepsWf_sprbRow h
  | spr2 k => exact (drawsSprite_spr2 k).raises_or_drawn storesInRow_spr2Row rowKeepsWf_spr2Row h
  | sprb2 k => exact (drawsSprite_sprb2 k).raises_or_drawn storesInRow_sprb2Row rowKeepsWf_sprb2Row h
  | glyph code =>
    simp only [exec, execGlyph] at h
    split at h
    · exact runCommand_completes h fun hc => ⟨s, _, _, _, drawn_refl (idle_of_phaseCheck hc), rfl⟩
    · refine runCommand_completes h fun hcheck => ?_
      obtain ⟨hphase, hglyph⟩ := Option.or_eq_none_iff.1 hcheck
      exact ⟨_, _, _, _, drawn_drawGlyph (idle_of_phaseCheck hphase) hglyph, rfl⟩
  | mclr =>
    rw [exec_mclr] at h
    exact runCommand_completes h fun _ => rfl
  | madd code =>
    simp only [exec, execMadd] at h
    split at h
    · exact runCommand_completes h fun _ => ⟨s.measW, s.measH, _, rfl⟩
    · exact runCommand_completes h fun _ => ⟨_, _, _, rfl⟩
  | begin => exact runCommand_completes h fun hc => ⟨idle_of_phaseCheck hc, rfl⟩
  | batch => exact runCommand_completes h fun hc => ⟨streaming_of_streamingCheck hc, rfl⟩
  | send => exact runCommand_completes h fun hc => ⟨valid_of_batchCheck hc, rfl⟩
  | addr => exact runCommand_completes h fun hc => ⟨idle_of_phaseCheck hc, rfl⟩
  | frame => exact runCommand_completes h fun hc => ⟨idle_of_phaseCheck hc, rfl⟩

/-! ### What a command leaves alone -/

/-- What every command keeps: the host's registers and lists, and the entries of the display log. -/
structure CommandKeeps (s t : State) : Prop where
  cfg : t.cfg = s.cfg
  argXY : t.argXY = s.argXY
  surfAddr : t.surfAddr = s.surfAddr
  batchAddr : t.batchAddr = s.batchAddr
  bus : t.bus = s.bus
  reads : t.reads = s.reads
  resetPin : t.resetPin = s.resetPin
  resets : t.resets = s.resets
  displayLog : ∃ more, t.displayLog = s.displayLog ++ more

theorem commandKeeps_of_surfOnly {s t : State} (h : SurfOnly s t) : CommandKeeps s t := by
  obtain ⟨m, rfl⟩ := h
  exact ⟨rfl, rfl, rfl, rfl, rfl, rfl, rfl, rfl, [], (List.append_nil _).symm⟩

theorem commandKeeps_of_transferOnly {s t : State} (h : TransferOnly s t) : CommandKeeps s t :=
  ⟨h.cfg, h.argXY, h.surfAddr, h.batchAddr, h.bus, h.reads, h.resetPin, h.resets,
    h.displayLog⟩

theorem commandKeeps_of_raises {s t : State} (h : Raises s t) : CommandKeeps s t := by
  obtain rfl | ⟨-, c, info, rfl⟩ := h <;>
    exact ⟨rfl, rfl, rfl, rfl, rfl, rfl, rfl, rfl, [], (List.append_nil _).symm⟩

theorem commandKeeps_produceBatch (s : State) : CommandKeeps s (produceBatch s) := by
  obtain ⟨m, p, c, h⟩ := produceBatch_frame s
  rw [h]
  exact ⟨rfl, rfl, rfl, rfl, rfl, rfl, rfl, rfl, [], (List.append_nil _).symm⟩

theorem commandKeeps_of_completes {s t : State} {i : Instr} (h : Completes s t i) :
    CommandKeeps s t := by
  cases i with
  | clear | fade | scroll d | spr k | sprb k | spr2 k | sprb2 k =>
    exact commandKeeps_of_surfOnly h.surfOnly
  | glyph code =>
    obtain ⟨u, found, w, d, hdrawn, rfl⟩ := h
    obtain ⟨m, rfl⟩ := hdrawn.surfOnly
    exact ⟨rfl, rfl, rfl, rfl, rfl, rfl, rfl, rfl, [], (List.append_nil _).symm⟩
  | mclr =>
    obtain rfl : t = _ := h
    exact ⟨rfl, rfl, rfl, rfl, rfl, rfl, rfl, rfl, [], (List.append_nil _).symm⟩
  | madd code =>
    obtain ⟨w, d, found, rfl⟩ := h
    exact ⟨rfl, rfl, rfl, rfl, rfl, rfl, rfl, rfl, [], (List.append_nil _).symm⟩
  | begin =>
    obtain ⟨-, rfl⟩ := h
    exact ⟨rfl, rfl, rfl, rfl, rfl, rfl, rfl, rfl, [], (List.append_nil _).symm⟩
  | batch =>
    obtain ⟨-, rfl⟩ := h
    exact commandKeeps_produceBatch s
  | send | addr | frame =>
    obtain ⟨-, rfl⟩ := h
    exact commandKeeps_of_transferOnly (transferOnly_transfer s _)

/-- Settles O16: neither a fault nor the effect of a command of any kind writes what the host holds. -/
theorem commandsKeepHostRegisters : Obligations.CommandsKeepHostRegisters := by
  unfold Obligations.CommandsKeepHostRegisters
  intro i s t h
  obtain ⟨hcfg, hxy, hsurf, hbatch, hbus, hreads, hpin, hresets, -⟩ : CommandKeeps s t :=
    (exec_cases h).elim commandKeeps_of_raises fun hc => commandKeeps_of_completes hc.2
  exact ⟨hcfg, hxy, hsurf, hbatch, hbus, hreads, hpin, hresets⟩

/-! ### Which command writes which piece of state (R26 to R29, R35, R64) -/

/-- The Emits of FRAME. -/
def Hold.ofFrame : Hold → Bool
  | .frameColumn => true
  | .frameRow _ => true
  | .frameData _ => true
  | .send => false
  | .addrColumn => false
  | .addrRow _ => false

/-- `t` has the batch buffer, the cursor and the scan-out state of `s`, and is not in the middle of
FRAME. -/
structure EncoderKept (s t : State) : Prop where
  notFrame : ∀ h, t.hold = some h → h.ofFrame = false
  batch : t.batch = s.batch
  batchValid : t.batchValid = s.batchValid
  st : t.st = s.st
  ptr : t.ptr = s.ptr
  col : t.col = s.col
  nb : t.nb = s.nb

theorem encoderKept_answered {s t : State} {h : Hold} (hh : t.hold = some h) (ht : EncoderKept s t)
    (a : Answer) : EncoderKept s (answered h a t) := by
  have hnot := ht.notFrame h hh
  cases h with
  | send | addrRow failed => exact ⟨nofun, ht.batch, ht.batchValid, ht.st, ht.ptr, ht.col, ht.nb⟩
  | addrColumn =>
    exact ⟨by rintro _ ⟨⟩; rfl, ht.batch, ht.batchValid, ht.st, ht.ptr, ht.col, ht.nb⟩
  | frameColumn | frameRow failed | frameData failed => cases hnot

theorem encoderKept_transfer (s : State) {h : Hold} (hh : h.ofFrame = false) :
    EncoderKept s (s.transfer h) :=
  pump_induction (P := EncoderKept s)
    (fun _ _ ht => ⟨ht.notFrame, ht.batch, ht.batchValid, ht.st, ht.ptr, ht.col, ht.nb⟩)
    (fun _ _ a hh ht => encoderKept_answered hh ht a) s.port
    (s := { s with hold := some h }) ⟨by rintro _ ⟨⟩; exact hh, rfl, rfl, rfl, rfl, rfl, rfl⟩

/-- Settles O17: a fault writes none of these, and of the effects each writes its own. -/
theorem stateIsWrittenOnlyByItsCommands : Obligations.StateIsWrittenOnlyByItsCommands := by
  unfold Obligations.StateIsWrittenOnlyByItsCommands
  intro i s t h
  obtain (rfl | ⟨-, c, info, rfl⟩) | ⟨-, hc⟩ := exec_cases h
  · simp
  · simp
  · cases i with
    | clear | fade | scroll d | spr k | sprb k | spr2 k | sprb2 k =>
      obtain ⟨m, rfl⟩ := Drawn.surfOnly hc
      simp
    | glyph code =>
      obtain ⟨u, found, w, d, hdrawn, rfl⟩ := hc
      obtain ⟨m, rfl⟩ := hdrawn.surfOnly
      simp
    | mclr =>
      obtain rfl : t = _ := hc
      simp
    | madd code =>
      obtain ⟨w, d, found, rfl⟩ := hc
      simp
    | begin =>
      obtain ⟨-, rfl⟩ := hc
      simp
    | batch =>
      obtain ⟨-, rfl⟩ := hc
      obtain ⟨m, p, q, heq⟩ := produceBatch_frame s
      simp [heq]
    | send =>
      obtain ⟨-, rfl⟩ := hc
      have ht := transferOnly_transfer s .send
      have hk := encoderKept_transfer s (h := .send) rfl
      simp [ht.surf, ht.resW, ht.resH, ht.gfound, ht.measW, ht.measH, hk.batch, hk.batchValid, hk.st,
        hk.ptr, hk.col, hk.nb]
    | addr =>
      obtain ⟨-, rfl⟩ := hc
      have ht := transferOnly_transfer s .addrColumn
      have hk := encoderKept_transfer s (h := .addrColumn) rfl
      simp [ht.surf, ht.resW, ht.resH, ht.gfound, ht.measW, ht.measH, hk.batch, hk.batchValid, hk.st,
        hk.ptr, hk.col, hk.nb]
    | frame =>
      obtain ⟨-, rfl⟩ := hc
      have ht := transferOnly_transfer s .frameColumn
      simp [ht.surf, ht.resW, ht.resH, ht.gfound, ht.measW, ht.measH]

/-! ### What a step can do -/

/-- `t` is `s` but for the operand registers and the values read. -/
def HostWrites (s t : State) : Prop :=
  ∃ xy a b reads, t = { s with argXY := xy, surfAddr := a, batchAddr := b, reads := reads }

theorem hostWrites_refl (s : State) : HostWrites s s := ⟨_, _, _, _, rfl⟩

theorem hostWrites_badAccess (s : State) (off : Nat) (kind : AccessKind) :
    ∃ u, Raises s u ∧ HostWrites u (badAccess s off kind) := by
  refine ⟨_, raises_raiseFault s .badAccess (accessInfo off kind), ?_⟩
  cases kind <;> exact ⟨_, _, _, _, rfl⟩

/-- Everything a host access does: a command completes, or at most a fault is raised and an operand
register written or a read answered. -/
theorem hostAccess_effects {a : HostAccess} {s t : State} (h : hostAccess a s = .next t) :
    (∃ i, s.fault = false ∧ Completes s t i) ∨ ∃ u, Raises s u ∧ HostWrites u t := by
  obtain ⟨off, -, ⟨w, -, -, hw⟩ | ⟨v, r, -, -, hw⟩ | ⟨v, r, -, -, -, rfl⟩ | rfl⟩ := hostAccess_cases h
  · rw [commandWrite] at hw
    split at hw
    next =>
      cases hw
      exact .inr ⟨_, raises_raiseFault s _ _, hostWrites_refl _⟩
    next i _ =>
      obtain hr | hc := exec_cases hw
      · exact .inr ⟨t, hr, hostWrites_refl t⟩
      · exact .inl ⟨i, hc⟩
  · refine .inr ⟨s, .inl rfl, ?_⟩
    obtain rfl | rfl | rfl := writeReg_cases hw <;> exact ⟨_, _, _, _, rfl⟩
  · exact .inr ⟨s, .inl rfl, _, _, _, _, rfl⟩
  · exact .inr (hostWrites_badAccess s off a.kind)

/-- Everything a step does: it resets, or goes on with a command in progress, or performs at most one
access, which runs a command or writes what the host holds. -/
theorem step_effects {s t : State} (h : step s = .next t) :
    (s.resetAsserted = true ∧ t = s.samplePin.platformReset) ∨
    (s.hold ≠ none ∧ t = pump s.port s.samplePin) ∨
    s.hold = none ∧ ∃ rest,
      ((∃ i, s.fault = false ∧ Completes (s.taken rest) t i) ∨
        ∃ u, Raises (s.taken rest) u ∧ HostWrites u t) := by
  obtain ⟨hr, rfl⟩ | ⟨-, hh, rfl⟩ | ⟨-, hn, hb, rfl⟩ | ⟨-, hn, a, rest, -, ha⟩ := step_cases h
  · exact .inl ⟨hr, rfl⟩
  · exact .inr (.inl ⟨hh, rfl⟩)
  · exact .inr (.inr ⟨hn, s.bus, .inr ⟨s.samplePin, .inl rfl, hostWrites_refl _⟩⟩)
  · exact .inr (.inr ⟨hn, rest, hostAccess_effects (s := s.taken rest) ha⟩)

/-! ### What a step leaves alone -/

/-- Settles O22: no effect writes the configuration, and a reset keeps it. -/
theorem configurationNeverChanges : Obligations.ConfigurationNeverChanges := by
  unfold Obligations.ConfigurationNeverChanges
  intro s t h
  obtain ⟨-, rfl⟩ | ⟨-, rfl⟩ | ⟨-, rest, ⟨i, -, hc⟩ | ⟨u, hr, xy, a, b, reads, rfl⟩⟩ := step_effects h
  · rfl
  · exact (transferOnly_pump s.port s.samplePin).cfg
  · exact (commandKeeps_of_completes hc).cfg
  · exact (commandKeeps_of_raises hr).cfg

theorem surf_eq_of_raises {s t : State} (h : Raises s t) : t.surf = s.surf := by
  obtain rfl | ⟨-, c, info, rfl⟩ := h <;> rfl

/-- The commands that draw need an Idle block. -/
theorem surf_eq_of_completes {s t : State} {i : Instr} (hst : s.st = .streaming)
    (h : Completes s t i) : t.surf = s.surf := by
  have hnot : ∀ {u}, ¬ Drawn s u := fun hd => by cases hst.symm.trans hd.idle
  cases i with
  | clear | fade | scroll d | spr k | sprb k | spr2 k | sprb2 k => exact absurd h hnot
  | glyph code =>
    obtain ⟨u, found, w, d, hdrawn, -⟩ := h
    exact absurd hdrawn hnot
  | mclr =>
    obtain rfl : t = _ := h
    rfl
  | madd code =>
    obtain ⟨w, d, found, rfl⟩ := h
    rfl
  | begin =>
    obtain ⟨-, rfl⟩ := h
    rfl
  | batch =>
    obtain ⟨-, rfl⟩ := h
    obtain ⟨m, p, c, heq⟩ := produceBatch_frame s
    rw [heq]
  | send | addr | frame =>
    obtain ⟨-, rfl⟩ := h
    exact (transferOnly_transfer s _).surf

/-- Settles O46: while Streaming only drawing writes the surface, and no drawing command completes. -/
theorem surfaceFixedWhileStreaming : Obligations.SurfaceFixedWhileStreaming := by
  unfold Obligations.SurfaceFixedWhileStreaming
  intro s t hst hreset h
  have hkept : t.surf = s.surf ∧ t.resets = s.resets := by
    obtain ⟨hr, -⟩ | ⟨-, rfl⟩ | ⟨-, rest, ⟨i, -, hc⟩ | ⟨u, hr, xy, a, b, reads, rfl⟩⟩ := step_effects h
    · cases hreset.symm.trans hr
    · have ht := transferOnly_pump s.port s.samplePin
      exact ⟨ht.surf, ht.resets⟩
    · exact ⟨surf_eq_of_completes (s := s.taken rest) hst hc, (commandKeeps_of_completes hc).resets⟩
    · have hsurf := surf_eq_of_raises hr
      exact ⟨hsurf, (commandKeeps_of_raises hr).resets⟩
  obtain ⟨hsurf, hresets⟩ := hkept
  exact ⟨hsurf, fun i => by rw [State.surfByte, State.surfByte, hsurf, hresets]⟩

/-- Settles O54: answers are appended, a reset keeps the log, and what a command does keeps its
entries. -/
theorem displayLogOnlyGrows : Obligations.DisplayLogOnlyGrows := by
  unfold Obligations.DisplayLogOnlyGrows
  intro s t h
  obtain ⟨-, rfl⟩ | ⟨-, rfl⟩ | ⟨-, rest, ⟨i, -, hc⟩ | ⟨u, hr, xy, a, b, reads, rfl⟩⟩ := step_effects h
  · exact ⟨[], (List.append_nil _).symm⟩
  · exact (transferOnly_pump s.port s.samplePin).displayLog
  · exact (commandKeeps_of_completes hc).displayLog
  · exact (commandKeeps_of_raises hr).displayLog

end Sys2Proof.Machine

/-! SUPPORT. Pixels, the RGB565 codec, repeated FADEs, repeated glyphs and measured texts
(spec/20_memory.md R55, R56, spec/40_codec.md R102 to R104, spec/41_surface.md R121,
spec/42_compositor.md R150 to R153); and the obligations about them. -/

namespace Sys2Proof.Machine

open Sys2Proof

/-! ### One pixel (R55, R56) -/

/-- Settles O24: a pixel is one nibble of its byte, and no two pixels are one nibble. -/
theorem pixelWriteChangesOnePixel : Obligations.PixelWriteChangesOnePixel := by
  unfold Obligations.PixelWriteChangesOnePixel
  intro s x y v heven hx
  refine ⟨fun x' y' hx' => pix_setPix heven y y' v hx hx', fun i hi => ?_, _, rfl⟩
  rw [surfByte_setPix, if_neg]
  exact hi

/-! ### Expanded colours (R102, R103) -/

/-- A pixel word is its three channels. -/
theorem channels_append (v : Rgb565) : redOf v ++ greenOf v ++ blueOf v = v := by
  have hv := v.isLt
  apply BitVec.eq_of_toNat_eq
  rw [toNat_channels]
  simp only [redOf, greenOf, blueOf, BitVec.extractLsb'_toNat, Nat.shiftRight_eq_div_pow]
  omega

theorem toNat_setWidth_shiftLeft {n k : Nat} {x : BitVec n} (h : x.toNat * 2 ^ k < 2 ^ 32) :
    (x.setWidth 32 <<< k).toNat = x.toNat <<< k := by
  have hx : x.toNat < 2 ^ 32 := (Nat.le_mul_of_pos_right _ (Nat.two_pow_pos k)).trans_lt h
  rw [BitVec.toNat_shiftLeft, BitVec.toNat_setWidth, Nat.mod_eq_of_lt hx, Nat.shiftLeft_eq,
    Nat.mod_eq_of_lt h]

/-- Each channel has a lane of its own. -/
theorem toNat_expand (v : Rgb565) :
    (expand v).toNat = (redOf v).toNat * 65536 + (greenOf v).toNat * 256 + (blueOf v).toNat := by
  have hr := (redOf v).isLt
  have hg := (greenOf v).isLt
  have hb := (blueOf v).isLt
  have hlanes : (expand v).toNat =
      (redOf v).toNat <<< 16 ||| (greenOf v).toNat <<< 8 ||| (blueOf v).toNat := by
    rw [expand, BitVec.toNat_or, BitVec.toNat_or, toNat_setWidth_shiftLeft (by omega),
      toNat_setWidth_shiftLeft (by omega), BitVec.toNat_setWidth, Nat.mod_eq_of_lt (by omega)]
  have hg' : (greenOf v).toNat <<< 8 < 2 ^ 16 := by
    rw [Nat.shiftLeft_eq]
    omega
  have hupper : (redOf v).toNat <<< 16 ||| (greenOf v).toNat <<< 8 =
      ((redOf v).toNat * 256 + (greenOf v).toNat) <<< 8 := by
    rw [← Nat.shiftLeft_add_eq_or_of_lt hg', Nat.shiftLeft_eq, Nat.shiftLeft_eq, Nat.shiftLeft_eq]
    ring
  have hb' : (blueOf v).toNat < 2 ^ 8 := by omega
  rw [hlanes, hupper, ← Nat.shiftLeft_add_eq_or_of_lt hb', Nat.shiftLeft_eq]
  ring

@[simp] theorem redOf_unexpand (u : Word) : redOf (unexpand u) = u.extractLsb' 16 5 := redOf_append ..

@[simp] theorem greenOf_unexpand (u : Word) : greenOf (unexpand u) = u.extractLsb' 8 6 :=
  greenOf_append ..

@[simp] theorem blueOf_unexpand (u : Word) : blueOf (unexpand u) = u.extractLsb' 0 5 := blueOf_append ..

theorem toNat_lane (u : Word) (start len : Nat) :
    (u.extractLsb' start len).toNat = u.toNat / 2 ^ start % 2 ^ len := by
  rw [BitVec.extractLsb'_toNat, Nat.shiftRight_eq_div_pow]

/-- Settles O25: each channel is read back from its lane. -/
theorem expandRoundTrip : Obligations.ExpandRoundTrip := by
  unfold Obligations.ExpandRoundTrip
  intro v
  have hr := (redOf v).isLt
  have hg := (greenOf v).isLt
  have hb := (blueOf v).isLt
  have hv := toNat_expand v
  have hred : redOf (unexpand (expand v)) = redOf v :=
    BitVec.eq_of_toNat_eq (by rw [redOf_unexpand, toNat_lane]; omega)
  have hgreen : greenOf (unexpand (expand v)) = greenOf v :=
    BitVec.eq_of_toNat_eq (by rw [greenOf_unexpand, toNat_lane]; omega)
  have hblue : blueOf (unexpand (expand v)) = blueOf v :=
    BitVec.eq_of_toNat_eq (by rw [blueOf_unexpand, toNat_lane]; omega)
  rw [← channels_append (unexpand (expand v)), hred, hgreen, hblue, channels_append]

/-! ### The box filter (R104) -/

/-- A quarter of four expanded colours: the sums of the channels do not leave their lanes. -/
theorem toNat_quarter_sum (a b c d : Rgb565) :
    ((expand a + expand b + expand c + expand d) >>> 2).toNat =
      (((redOf a).toNat + (redOf b).toNat + (redOf c).toNat + (redOf d).toNat) * 65536 +
        ((greenOf a).toNat + (greenOf b).toNat + (greenOf c).toNat + (greenOf d).toNat) * 256 +
        ((blueOf a).toNat + (blueOf b).toNat + (blueOf c).toNat + (blueOf d).toNat)) / 4 := by
  have hlt : ∀ v : Rgb565, (expand v).toNat < 2 ^ 24 := fun v => by
    rw [toNat_expand]
    have hr := (redOf v).isLt
    have hg := (greenOf v).isLt
    have hb := (blueOf v).isLt
    omega
  have ha := hlt a
  have hb := hlt b
  have hc := hlt c
  have hd := hlt d
  have hsum : (expand a + expand b + expand c + expand d).toNat =
      (expand a).toNat + (expand b).toNat + (expand c).toNat + (expand d).toNat := by
    simp only [BitVec.toNat_add]
    omega
  rw [BitVec.toNat_ushiftRight, Nat.shiftRight_eq_div_pow, hsum]
  simp only [toNat_expand]
  omega

theorem channel_sum_lt {n : Nat} (f : Rgb565 → BitVec n) (a b c d : Rgb565) :
    (f a).toNat + (f b).toNat + (f c).toNat + (f d).toNat < 4 * 2 ^ n := by
  have ha := (f a).isLt
  have hb := (f b).isLt
  have hc := (f c).isLt
  have hd := (f d).isLt
  omega

/-- Settles O27: below a channel's sum in the word is less than one of its units, so it does not reach the
quotient; above it is a multiple of the lane. -/
theorem boxFilterAveragesEachChannel : Obligations.BoxFilterAveragesEachChannel := by
  unfold Obligations.BoxFilterAveragesEachChannel
  intro a b c d
  have hr := channel_sum_lt redOf a b c d
  have hg := channel_sum_lt greenOf a b c d
  have hb := channel_sum_lt blueOf a b c d
  have hsum := toNat_quarter_sum a b c d
  refine ⟨?_, ?_, ?_⟩
  · rw [avg4, redOf_unexpand, toNat_lane, hsum]
    omega
  · rw [avg4, greenOf_unexpand, toNat_lane, hsum]
    omega
  · rw [avg4, blueOf_unexpand, toNat_lane, hsum]
    omega

/-! ### Sequences of commands -/

theorem execAll_cons {i : Instr} {s t : State} (h : exec i s = .next t) (rest : List Instr) :
    execAll (i :: rest) s = execAll rest t := by
  simp only [execAll, h]

/-! ### Repeated FADEs (R121) -/

theorem exec_fade_of_composing {s : State} (h : s.Composing) : exec .fade s = .next (fadeSurface s) := by
  rw [exec_fade, runCommand_phase_of_idle h.1 h.2]

theorem composing_fadeSurface {s : State} (h : s.Composing) : (fadeSurface s).Composing :=
  ⟨(surfOnly_fadeSurface s).fault_eq.trans h.1, (surfOnly_fadeSurface s).st_eq.trans h.2⟩

theorem surfByte_fadeSurface (s : State) {i : Nat} (hi : i < s.cfg.surfBytes) :
    (fadeSurface s).surfByte i = fadeByte (s.surfByte i) := by
  rw [fadeSurface_eq]
  exact surfByte_of_read (read_mapSurface_inside _ s hi)

/-- Settles O30: by induction on the number of FADEs, each of which takes 1 from every nibble. -/
theorem fadesReachZeroAfterNibbleValue : Obligations.FadesReachZeroAfterNibbleValue := by
  unfold Obligations.FadesReachZeroAfterNibbleValue
  intro n
  induction n with
  | zero => exact fun s _ => ⟨s, rfl, fun i _ => ⟨rfl, rfl⟩⟩
  | succ n ih =>
    intro s hs
    obtain ⟨t, ht, hbytes⟩ := ih (fadeSurface s) (composing_fadeSurface hs)
    refine ⟨t, ?_, fun i hi => ?_⟩
    · rw [List.replicate_succ, execAll_cons (exec_fade_of_composing hs), ht]
    · have hcfg : (fadeSurface s).cfg = s.cfg := (surfOnly_fadeSurface s).cfg_eq
      obtain ⟨hlo, hhi⟩ := hbytes i (hcfg ▸ hi)
      rw [hlo, hhi, surfByte_fadeSurface s hi, loNibble_fadeByte, hiNibble_fadeByte, toNat_fadeNibble,
        toNat_fadeNibble]
      omega

/-! ### A glyph drawn twice (R150) -/

theorem argX_eq_of_argXY_eq {s t : State} (h : t.argXY = s.argXY) : t.argX = s.argX := by
  rw [State.argX, State.argX, h]

theorem argY_eq_of_argXY_eq {s t : State} (h : t.argXY = s.argXY) : t.argY = s.argY := by
  rw [State.argY, State.argY, h]

theorem SurfOnly.argXY_eq {s t : State} (h : SurfOnly s t) : t.argXY = s.argXY := by
  obtain ⟨m, rfl⟩ := h
  rfl

/-- A byte is known by its two pixels. -/
theorem surfByte_eq_of_pix_eq {s t : State} (hcfg : t.cfg = s.cfg) (heven : s.cfg.surfWidth % 2 = 0)
    {x y : Nat} (hx : x < s.cfg.surfWidth)
    (h : ∀ x' < s.cfg.surfWidth, t.pix x' y = s.pix x' y) :
    t.surfByte (pixByte s.cfg x y) = s.surfByte (pixByte s.cfg x y) := by
  have hbyte : ∀ p < 2, pixByte s.cfg (2 * (x / 2) + p) y = pixByte s.cfg x y := fun p hp => by
    rw [pixByte, pixByte]
    omega
  have hleft := h (2 * (x / 2) + 0) (by omega)
  have hright := h (2 * (x / 2) + 1) (by omega)
  simp only [State.pix, hcfg, hbyte 0 (by decide), hbyte 1 (by decide)] at hleft hright
  rw [← nibbles_hi_lo (t.surfByte _), ← nibbles_hi_lo (s.surfByte _)]
  congr 1
  · simpa [Nat.mul_add_mod] using hright
  · simpa using hleft

/-- Where a glyph's ink is already, drawing it changes no byte: ORing twice is ORing once. -/
theorem surfByte_drawGlyph_of_inked {s t : State} {d : Descriptor} (hcfg : t.cfg = s.cfg)
    (hxy : t.argXY = s.argXY) (heven : s.cfg.surfWidth % 2 = 0)
    (hwidth : s.argX.toNat + d.w.toNat ≤ s.cfg.surfWidth)
    (hinked : ∀ x y, t.pix x y = (drawGlyph d s).pix x y) (i : Nat) :
    (drawGlyph d t).surfByte i = t.surfByte i := by
  have hargX := argX_eq_of_argXY_eq hxy
  have hargY := argY_eq_of_argXY_eq hxy
  have hpix : ∀ x y, x < t.cfg.surfWidth → (drawGlyph d t).pix x y = t.pix x y := by
    intro x y hx
    have hx' : x < s.cfg.surfWidth := hcfg ▸ hx
    have htwice := pix_drawGlyph (s := t) (d := d) (y := y) (hcfg ▸ heven) hx (by rwa [hargX, hcfg])
    rw [htwice, hinked, pix_drawGlyph heven hx' hwidth, hcfg, hargX, hargY]
    split
    · rw [BitVec.or_assoc, BitVec.or_self]
    · rfl
  by_cases hbox : ∃ b < d.h.toNat, ∃ a < d.w.toNat,
      i = pixByte t.cfg (t.argX.toNat + a) (t.argY.toNat + b)
  · obtain ⟨b, hb, a, ha, rfl⟩ := hbox
    refine surfByte_eq_of_pix_eq (surfOnly_drawGlyph d t).cfg_eq (hcfg ▸ heven) ?_
      fun x' hx' => hpix x' _ hx'
    rw [hcfg, hargX]
    omega
  · exact (surfOnly_drawGlyph d t).surfByte_of_read_eq (read_drawGlyph_other fun b hb a ha heq =>
      hbox ⟨b, hb, a, ha, heq⟩)

theorem surfByte_eq_of_same_next {i : Instr} {s u : State} (hs : exec i s = .next s)
    (h : exec i s = .next u) (a : Nat) : u.surfByte a = s.surfByte a := by
  cases hs.symm.trans h
  rfl

/-- GLYPH where its ink is already passes the same checks, and leaves every byte as it is. -/
theorem surfByte_glyph_of_inked {s t u : State} {code : Nat} {d : Descriptor} (ht : t.Composing)
    (hcfg : t.cfg = s.cfg) (hxy : t.argXY = s.argXY) (heven : s.cfg.surfWidth % 2 = 0)
    (hd : glyphLookup s.cfg code = some d) (hfits : s.GlyphFits d)
    (hinked : ∀ x y, t.pix x y = (drawGlyph d s).pix x y) (h : exec (.glyph code) t = .next u)
    (i : Nat) : u.surfByte i = t.surfByte i := by
  have hfits' : t.GlyphFits d := by
    rw [State.GlyphFits, argX_eq_of_argXY_eq hxy, argY_eq_of_argXY_eq hxy, hcfg]
    exact hfits
  have hwidth : s.argX.toNat + d.w.toNat ≤ s.cfg.surfWidth := by
    obtain ⟨hX, -, hright, -⟩ := hfits
    omega
  rw [exec_glyph_of_known ht.2 (hcfg ▸ hd), glyphCheck_of_fits hfits', runCommand_of_clear ht.1] at h
  cases h
  exact surfByte_drawGlyph_of_inked hcfg hxy heven hwidth hinked i

/-- Settles O39: a glyph that is not drawn writes no surface byte, and one that is drawn finds its own ink
the second time. -/
theorem glyphTwiceIsGlyphOnce : Obligations.GlyphTwiceIsGlyphOnce := by
  unfold Obligations.GlyphTwiceIsGlyphOnce
  intro s t u code hwf h h'
  have hfaulted : t.fault = true → ∀ i, u.surfByte i = t.surfByte i := fun ht =>
    surfByte_eq_of_same_next (exec_of_faulted ht) h'
  cases hfault : s.fault with
  | true =>
    rw [exec_of_faulted hfault] at h
    cases h
    exact hfaulted hfault
  | false =>
    cases hst : s.st with
    | streaming =>
      rw [exec_glyph_of_streaming hfault hst] at h
      cases h
      exact hfaulted rfl
    | idle =>
      cases hd : glyphLookup s.cfg code with
      | none =>
        rw [exec_glyph_of_unknown hfault hst hd] at h
        cases h
        rw [exec_glyph_of_unknown (s := s.setResult false 0#16 0#16) hfault hst hd] at h'
        cases h'
        exact fun _ => rfl
      | some d =>
        rw [exec_glyph_of_known hst hd] at h
        by_cases hfits : s.GlyphFits d
        · rw [glyphCheck_of_fits hfits, runCommand_of_clear hfault] at h
          cases h
          have honly := surfOnly_drawGlyph d s
          exact surfByte_glyph_of_inked ⟨honly.fault_eq.trans hfault, honly.st_eq.trans hst⟩
            honly.cfg_eq honly.argXY_eq (surfWidth_even_of_wf hwf) hd hfits (fun _ _ => rfl) h'
        · rw [glyphCheck_of_not_fits hfits, runCommand_of_check hfault] at h
          cases h
          exact hfaulted rfl

/-! ### Measuring a text (R153) -/

theorem toNat_maxU16 (a b : BitVec 16) : (maxU16 a b).toNat = max a.toNat b.toNat := by
  have ha := a.isLt
  have hb := b.isLt
  rw [maxU16_eq_ofNat_max, BitVec.toNat_ofNat]
  omega

/-- MADD of known codes, from any measurement: by induction on the text. -/
theorem execAll_madd (ds : List (Nat × Descriptor)) {s : State} (hfault : s.fault = false)
    (hknown : ∀ p ∈ ds, glyphLookup s.cfg p.1 = some p.2) :
    ∃ t, execAll (ds.map fun p => .madd p.1) s = some t ∧
      t.measW.toNat = (s.measW.toNat + (ds.map fun p => p.2.w.toNat).sum) % 65536 ∧
      t.measH.toNat = (ds.map fun p => p.2.h.toNat).foldl max s.measH.toNat ∧
      t = { s with
        measW := t.measW, measH := t.measH, gfound := if ds = [] then s.gfound else true } := by
  induction ds generalizing s with
  | nil =>
    have hlt := s.measW.isLt
    exact ⟨s, rfl, by simp only [List.map_nil, List.sum_nil]; omega, rfl, rfl⟩
  | cons p ds ih =>
    have hexec := exec_madd_of_known hfault (hknown p List.mem_cons_self)
    obtain ⟨t, ht, hw, hh, hframe⟩ := ih
      (s := (s.setMeas (s.measW + p.2.w) (maxU16 s.measH p.2.h)).setFound true) hfault
      fun q hq => hknown q (List.mem_cons_of_mem p hq)
    refine ⟨t, by rw [List.map_cons, execAll_cons hexec, ht], ?_, ?_, ?_⟩
    · rw [hw, State.setFound_measW, State.setMeas_measW, BitVec.toNat_add, List.map_cons, List.sum_cons]
      omega
    · rw [hh, State.setFound_measH, State.setMeas_measH, toNat_maxU16, List.map_cons, List.foldl_cons]
    · rw [hframe]
      simp [State.setFound, State.setMeas]

/-- Settles O42: MCLR clears the measurement, and each MADD adds to it. -/
theorem measuringAText : Obligations.MeasuringAText := by
  unfold Obligations.MeasuringAText
  intro s ds hfault hknown
  have hmclr : exec .mclr s = .next (s.setMeas 0#16 0#16) := by
    rw [exec_mclr, runCommand_of_clear hfault]
  obtain ⟨t, ht, hw, hh, hframe⟩ := execAll_madd ds (s := s.setMeas 0#16 0#16) hfault hknown
  refine ⟨t, by rw [execAll_cons hmclr, ht], ?_, hh, hframe⟩
  rw [hw, State.setMeas_measW]
  simp

end Sys2Proof.Machine

/-! SUPPORT. The scan-out encoder (spec/43_scanout.md R183 to R190): where the cursor stands after each
step of a batch, which bytes a batch stores, what a pass looks like after each of its batches; and the
obligations about BATCH and the cursor. -/

namespace Sys2Proof.Machine

open Sys2Proof

/-! ### Rows of a raster -/

theorem div_mod_add_of_lt {q n k : Nat} (h : q % n + k < n) :
    (q + k) / n = q / n ∧ (q + k) % n = q % n + k := by
  refine (Nat.div_mod_unique (Nat.zero_lt_of_lt h)).2 ⟨?_, h⟩
  have hq := Nat.mod_add_div q n
  omega

theorem div_mod_add_of_eq {q n k : Nat} (hn : 0 < n) (h : q % n + k = n) :
    (q + k) / n = q / n + 1 ∧ (q + k) % n = 0 := by
  refine (Nat.div_mod_unique hn).2 ⟨?_, hn⟩
  have hq := Nat.mod_add_div q n
  rw [Nat.mul_succ]
  omega

/-! ### Cursor positions (R186, R188) -/

section

variable {c : Config}

theorem cursorPtr_of_ss_one (hss : c.ss = 1) (q : Nat) : cursorPtr c q = q / 2 := by
  rw [cursorPtr, if_pos hss]

theorem cursorPtr_of_ss_two (hss : c.ss = 2) (q : Nat) :
    cursorPtr c q = q / c.nw * (2 * c.nw) + q % c.nw := by
  rw [cursorPtr, if_neg (by rw [hss]; decide), stride_eq_of_ss_two hss]

/-- Every cursor position of a pass is inside the surface, at SS = 2 with the byte below it (R190). -/
theorem cursorPtr_lt (h : Admitted c) {q : Nat} (hq : q < c.nw * c.nh) :
    cursorPtr c q < c.surfBytes ∧ (c.ss = 2 → cursorPtr c q + c.stride < c.surfBytes) := by
  obtain hss | hss := h.ss_cases
  · have hbytes : c.nw * c.nh = 2 * c.surfBytes := by
      rw [surfBytes_of_ss_one hss, nw_eq_of_ss_one h hss, Nat.mul_assoc]
    rw [cursorPtr_of_ss_one hss]
    omega
  · have hrow : q / c.nw < c.nh := Nat.div_lt_of_lt_mul hq
    have hcol : q % c.nw < c.nw := Nat.mod_lt q h.nw_pos
    have hend : (q / c.nw + 1) * (2 * c.nw) ≤ c.surfBytes := by
      rw [surfBytes_of_ss_two hss, Nat.mul_comm c.nw, Nat.mul_assoc, Nat.mul_comm c.nw]
      exact Nat.mul_le_mul_right _ hrow
    rw [cursorPtr_of_ss_two hss, stride_eq_of_ss_two hss]
    rw [Nat.succ_mul] at hend
    omega

/-- After its last pixel a pass has read the surface to its end (R190). -/
theorem cursorPtr_end (h : Admitted c) : cursorPtr c (c.nw * c.nh) = c.surfBytes := by
  obtain hss | hss := h.ss_cases
  · rw [cursorPtr_of_ss_one hss, surfBytes_of_ss_one hss, nw_eq_of_ss_one h hss, Nat.mul_assoc,
      Nat.mul_div_cancel_left _ (by decide)]
  · rw [cursorPtr_of_ss_two hss, surfBytes_of_ss_two hss, Nat.mul_div_cancel_left _ h.nw_pos,
      Nat.mul_mod_right]
    ring

/-- PTR's 24 bits hold every cursor position of a pass. -/
theorem cursorPtr_lt_two_pow (h : Admitted c) {q : Nat} (hq : q ≤ c.nw * c.nh) :
    cursorPtr c q < 2 ^ 24 := by
  refine lt_of_le_of_lt ?_ h.surfBytes_lt
  obtain hlt | rfl := Nat.lt_or_eq_of_le hq
  · exact (cursorPtr_lt h hlt).1.le
  · exact (cursorPtr_end h).le

/-- COL's 16 bits hold every column. -/
theorem col_lt_two_pow (h : Admitted c) (q : Nat) : q % c.nw < 2 ^ 16 := by
  have hlt := Nat.mod_lt q h.nw_pos
  have hnw := h.nw_le
  omega

end

/-! ### The pixel values the encoder produces (R186, R188, R189) -/

section

variable {s : State} {q : Nat}

/-- At SS = 1 two pixels of the raster share the byte at the cursor. -/
theorem pixByte_of_ss_one (h : Admitted s.cfg) (hss : s.cfg.ss = 1) (q : Nat) :
    pixByte s.cfg (q % s.cfg.nw) (q / s.cfg.nw) = q / 2 := by
  have hq := Nat.mod_add_div q s.cfg.nw
  have hnw : s.cfg.nw * (q / s.cfg.nw) = 2 * (q / s.cfg.nw * s.cfg.stride) := by
    rw [nw_eq_of_ss_one h hss]
    ring
  rw [pixByte]
  omega

theorem mod_nw_mod_two (h : Admitted s.cfg) (hss : s.cfg.ss = 1) (q : Nat) :
    q % s.cfg.nw % 2 = q % 2 :=
  Nat.mod_mod_of_dvd q ⟨s.cfg.stride, nw_eq_of_ss_one h hss⟩

theorem leftPixel_eq_rasterPixel (h : Admitted s.cfg) (hss : s.cfg.ss = 1) (hq : q % 2 = 0) :
    leftPixel s.cfg (s.surfByte (q / 2)) = rasterPixel s q := by
  have hpar := (mod_nw_mod_two h hss q).trans hq
  simp only [rasterPixel, hss, if_true, State.pix, hpar, pixByte_of_ss_one h hss, leftPixel]

theorem rightPixel_eq_rasterPixel (h : Admitted s.cfg) (hss : s.cfg.ss = 1) (hq : q % 2 = 0) :
    rightPixel s.cfg (s.surfByte (q / 2)) = rasterPixel s (q + 1) := by
  have hpar : (q + 1) % s.cfg.nw % 2 = 1 := by
    rw [mod_nw_mod_two h hss]
    omega
  have hbyte : (q + 1) / 2 = q / 2 := by omega
  simp only [rasterPixel, hss, if_true, State.pix, hpar, pixByte_of_ss_one h hss, hbyte, rightPixel,
    one_ne_zero, if_false]

theorem pix_even (s : State) (x y : Nat) :
    s.pix (2 * x) y = loNibble (s.surfByte (y * s.cfg.stride + x)) := by
  simp [State.pix, pixByte]

theorem pix_odd (s : State) (x y : Nat) :
    s.pix (2 * x + 1) y = hiNibble (s.surfByte (y * s.cfg.stride + x)) := by
  have hmod : ¬ (2 * x + 1) % 2 = 0 := by omega
  have hdiv : (2 * x + 1) / 2 = x := by omega
  rw [State.pix, if_neg hmod, pixByte, hdiv]

/-- At SS = 2 the block of a native pixel is the byte at the cursor and the one below it. -/
theorem blockPixel_eq_rasterPixel (hss : s.cfg.ss = 2) (q : Nat) :
    blockPixel s.cfg (s.surfByte (cursorPtr s.cfg q))
      (s.surfByte (cursorPtr s.cfg q + s.cfg.stride)) = rasterPixel s q := by
  have hne : ¬ s.cfg.ss = 1 := by rw [hss]; decide
  have hupper : 2 * (q / s.cfg.nw) * s.cfg.stride + q % s.cfg.nw = cursorPtr s.cfg q := by
    rw [cursorPtr_of_ss_two hss, stride_eq_of_ss_two hss]
    ring
  have hlower : (2 * (q / s.cfg.nw) + 1) * s.cfg.stride + q % s.cfg.nw =
      cursorPtr s.cfg q + s.cfg.stride := by
    rw [← hupper]
    ring
  simp only [rasterPixel, hne, if_false, pix_even, pix_odd, hupper, hlower, blockPixel]

end

/-! ### The bytes of a batch (R61, R183, R189) -/

/-- Memory `m` is `old` with the first `n` pixel words replaced by those of the raster of `s` from pixel
`q` on. -/
structure HoldsPixels (s : State) (q n : Nat) (old m : Memory) : Prop where
  written : ∀ i < 2 * n, m.read i = some (frameByte s (2 * q + i))
  kept : ∀ i, 2 * n ≤ i → m.read i = old.read i
  wf : old.wf → m.wf

theorem holdsPixels_zero (s : State) (q : Nat) (m : Memory) : HoldsPixels s q 0 m m :=
  ⟨fun _ hi => absurd hi (Nat.not_lt_zero _), fun _ _ => rfl, id⟩

theorem frameByte_even (s : State) (q : Nat) : frameByte s (2 * q) = pixelHigh (rasterPixel s q) := by
  simp [frameByte]

theorem frameByte_odd (s : State) (q : Nat) : frameByte s (2 * q + 1) = pixelLow (rasterPixel s q) := by
  have hmod : (2 * q + 1) % 2 ≠ 0 := by omega
  have hdiv : (2 * q + 1) / 2 = q := by omega
  rw [frameByte, if_neg hmod, hdiv]

/-- The next pixel word goes behind those the memory holds. -/
theorem holdsPixels_putPixel {s t : State} {q n : Nat} {old : Memory} {v : Rgb565}
    (h : HoldsPixels s q n old t.batch) (hv : v = rasterPixel s (q + n)) :
    HoldsPixels s q (n + 1) old (t.putPixel n v).batch := by
  subst hv
  have hread : ∀ i, (t.putPixel n (rasterPixel s (q + n))).batch.read i =
      if i = 2 * n + 1 then some (frameByte s (2 * q + i))
      else if i = 2 * n then some (frameByte s (2 * q + i)) else t.batch.read i := by
    intro i
    rw [State.putPixel, State.pokeBatch_batch, State.pokeBatch_batch, Memory.read_write,
      Memory.read_write, ← frameByte_even, ← frameByte_odd]
    have hbyte : 2 * (q + n) = 2 * q + 2 * n := Nat.mul_add 2 q n
    split
    next hi => rw [hi, hbyte, Nat.add_assoc]
    next =>
      split
      next hi => rw [hi, hbyte]
      next => rfl
  refine ⟨fun i hi => ?_, fun i hi => ?_, fun hold => ?_⟩
  · rw [hread]
    split
    · rfl
    · split
      · rfl
      · exact h.written i (by omega)
  · rw [hread, if_neg (by omega), if_neg (by omega)]
    exact h.kept i (by omega)
  · exact Memory.wf_write (Memory.wf_write (h.wf hold) _ _) _ _

/-! ### One step of the loop (R185, R186, R188) -/

/-- The cursor stands where `q` produced pixels put it. -/
def State.CursorAt (s : State) (q : Nat) : Prop :=
  s.ptr.toNat = cursorPtr s.cfg q ∧ s.col.toNat = q % s.cfg.nw

theorem cursorAt_setCursor {s : State} (h : Admitted s.cfg) {q p x : Nat}
    (hq : q ≤ s.cfg.nw * s.cfg.nh) (hp : p = cursorPtr s.cfg q) (hx : x = q % s.cfg.nw) :
    (s.setCursor p x).CursorAt q := by
  subst hp hx
  exact ⟨Nat.mod_eq_of_lt (cursorPtr_lt_two_pow h hq), Nat.mod_eq_of_lt (col_lt_two_pow h q)⟩

section

variable {s : State} {q : Nat} (h : Admitted s.cfg) (hcursor : s.CursorAt q)

include h hcursor

theorem cursorAt_advance1 (hss : s.cfg.ss = 1) (heven : q % 2 = 0)
    (hq : q + 2 ≤ s.cfg.nw * s.cfg.nh) : s.advance1.CursorAt (q + 2) := by
  obtain ⟨hptr, hcol⟩ := hcursor
  have hpar := (mod_nw_mod_two h hss q).trans heven
  have hnw := nw_eq_of_ss_one h hss
  have hlt : q % s.cfg.nw < s.cfg.nw := Nat.mod_lt q h.nw_pos
  refine cursorAt_setCursor h hq ?_ ?_
  · rw [hptr, cursorPtr_of_ss_one hss, cursorPtr_of_ss_one hss]
    omega
  · rw [hcol]
    split
    next hend => rw [(div_mod_add_of_eq h.nw_pos hend).2]
    next hnot => rw [(div_mod_add_of_lt (by omega)).2]

theorem cursorAt_advance2 (hss : s.cfg.ss = 2) (hq : q + 1 ≤ s.cfg.nw * s.cfg.nh) :
    s.advance2.CursorAt (q + 1) := by
  obtain ⟨hptr, hcol⟩ := hcursor
  have hlt : q % s.cfg.nw < s.cfg.nw := Nat.mod_lt q h.nw_pos
  simp only [State.advance2, hcol]
  split
  next hend =>
    obtain ⟨hdiv, hmod⟩ := div_mod_add_of_eq h.nw_pos hend
    refine cursorAt_setCursor h hq ?_ hmod.symm
    rw [hptr, cursorPtr_of_ss_two hss, cursorPtr_of_ss_two hss, stride_eq_of_ss_two hss, hdiv, hmod,
      Nat.succ_mul (q / s.cfg.nw)]
    omega
  next hnot =>
    obtain ⟨hdiv, hmod⟩ := div_mod_add_of_lt (q := q) (n := s.cfg.nw) (k := 1) (by omega)
    refine cursorAt_setCursor h hq ?_ hmod.symm
    rw [hptr, cursorPtr_of_ss_two hss, cursorPtr_of_ss_two hss, hdiv, hmod, Nat.add_assoc]

end

/-! ### The loop of a batch (R185) -/

/-- The pixel words of one step of the loop. -/
def pixelsPerStep (c : Config) : Nat := if c.ss = 1 then 2 else 1

/-- `t` is `s` after the encoder has produced `n` pixels from pixel `q` on. -/
structure Encoded (s : State) (q n : Nat) (t : State) : Prop where
  only : EncoderOnly s t
  cursor : t.CursorAt (q + n)
  pixels : HoldsPixels s q n s.batch t.batch

theorem EncoderOnly.cfg_eq {s t : State} (h : EncoderOnly s t) : t.cfg = s.cfg := by
  obtain ⟨m, p, c, rfl⟩ := h
  rfl

theorem EncoderOnly.surfByte_eq {s t : State} (h : EncoderOnly s t) : t.surfByte = s.surfByte := by
  obtain ⟨m, p, c, rfl⟩ := h
  rfl

section

variable {s t : State} {q n : Nat} (h : Admitted s.cfg) (ht : Encoded s q n t)

include h ht

theorem encoded_encode1 (hss : s.cfg.ss = 1) (heven : (q + n) % 2 = 0)
    (hq : q + (n + 2) ≤ s.cfg.nw * s.cfg.nh) : Encoded s q (n + 2) (encode1 t n) := by
  obtain ⟨honly, hcursor, hpixels⟩ := ht
  have hcfg := honly.cfg_eq
  have hptr : t.ptr.toNat = (q + n) / 2 := by
    rw [hcursor.1, hcfg, cursorPtr_of_ss_one hss]
  refine ⟨honly.trans (encoderOnly_encode1 t n), ?_, ?_⟩
  · exact cursorAt_advance1 (q := q + n) (hcfg ▸ h) hcursor (hcfg ▸ hss) heven (by rw [hcfg]; omega)
  · have hleft := leftPixel_eq_rasterPixel h hss heven
    have hright := rightPixel_eq_rasterPixel h hss heven
    simp only [encode1, hptr, hcfg, honly.surfByte_eq, hleft, hright]
    exact holdsPixels_putPixel (holdsPixels_putPixel (t := t.advance1) hpixels rfl) rfl

theorem encoded_encode2 (hss : s.cfg.ss = 2) (hq : q + (n + 1) ≤ s.cfg.nw * s.cfg.nh) :
    Encoded s q (n + 1) (encode2 t n) := by
  obtain ⟨honly, hcursor, hpixels⟩ := ht
  have hcfg := honly.cfg_eq
  have hptr : t.ptr.toNat = cursorPtr s.cfg (q + n) := by rw [hcursor.1, hcfg]
  have hbatch : t.advance2.batch = t.batch := by
    rw [State.advance2]
    split <;> rfl
  refine ⟨honly.trans (encoderOnly_encode2 t n), ?_, ?_⟩
  · exact cursorAt_advance2 (q := q + n) (hcfg ▸ h) hcursor (hcfg ▸ hss) (by rw [hcfg]; omega)
  · simp only [encode2, hptr, hcfg, honly.surfByte_eq, blockPixel_eq_rasterPixel hss]
    exact holdsPixels_putPixel (hbatch ▸ hpixels) rfl

end

theorem encoded_encodeSteps {s : State} (h : Admitted s.cfg) {q : Nat} (hcursor : s.CursorAt q)
    (heven : s.cfg.ss = 1 → q % 2 = 0) {k : Nat}
    (hk : q + pixelsPerStep s.cfg * k ≤ s.cfg.nw * s.cfg.nh) :
    Encoded s q (pixelsPerStep s.cfg * k) (encodeSteps s k) := by
  induction k with
  | zero =>
    rw [encodeSteps_zero]
    exact ⟨EncoderOnly.refl s, hcursor, holdsPixels_zero s q s.batch⟩
  | succ k ih =>
    rw [Nat.mul_succ] at hk
    have hprev := ih (by omega)
    rw [encodeSteps_succ]
    obtain hss | hss := h.ss_cases
    · have hpps : pixelsPerStep s.cfg = 2 := if_pos hss
      rw [hpps] at hk hprev ⊢
      rw [if_pos hss]
      have hq := heven hss
      exact encoded_encode1 (n := 2 * k) h hprev hss (by omega) hk
    · have hne : s.cfg.ss ≠ 1 := by rw [hss]; decide
      have hpps : pixelsPerStep s.cfg = 1 := if_neg hne
      rw [hpps, Nat.one_mul] at hk hprev
      rw [hpps, Nat.one_mul, if_neg hne]
      exact encoded_encode2 h hprev hss hk

/-! ### Whole batches (R185, R187) -/

section

variable {c : Config} (h : Admitted c)

include h

theorem pixelsPerStep_mul_batchSteps : pixelsPerStep c * batchSteps c = c.batchPixels := by
  have hmod := h.chunk_mod
  have hchunk := chunkBytes_eq_batchPixels h
  obtain hss | hss := h.ss_cases
  · simp only [pixelsPerStep, batchSteps, hss, if_true]
    omega
  · have hne : ¬ c.ss = 1 := by rw [hss]; decide
    simp only [pixelsPerStep, batchSteps, hne, if_false, Nat.one_mul]

theorem mul_batchPixels_mod_two (k : Nat) : k * c.batchPixels % 2 = 0 := by
  have hmod := h.chunk_mod
  have heven : c.batchPixels % 2 = 0 := by
    rw [Config.batchPixels]
    omega
  rw [Nat.mul_mod, heven, Nat.mul_zero, Nat.zero_mod]

/-- A batch that is not past the last one ends inside the frame. -/
theorem batch_end_le {k : Nat} (hk : k < c.nbFrame) :
    k * c.batchPixels + c.batchPixels ≤ c.nw * c.nh := by
  rw [← nbFrame_mul_batchPixels h, ← Nat.succ_mul]
  exact Nat.mul_le_mul_right _ hk

end

/-- `s` in a pass after `k` batches: the registers R185 gives it, and batch buffer `m`. -/
def passState (s : State) (k : Nat) (m : Memory) (valid : Bool) : State :=
  { s with
    batch := m
    batchValid := valid
    nb := BitVec.ofNat 16 k
    st := if k = s.cfg.nbFrame then .idle else .streaming
    ptr := BitVec.ofNat 24 (cursorPtr s.cfg (k * s.cfg.batchPixels))
    col := BitVec.ofNat 16 (k * s.cfg.batchPixels % s.cfg.nw) }

theorem eq_ofNat_of_toNat_eq {w n : Nat} {x : BitVec w} (h : x.toNat = n) : x = BitVec.ofNat w n := by
  rw [← h, BitVec.ofNat_toNat, BitVec.setWidth_eq]

section

variable {s : State} (h : Admitted s.cfg) (hnb : s.nb.toNat < s.cfg.nbFrame)

include h hnb

theorem toNat_nb_succ : (s.nb + 1#16).toNat = s.nb.toNat + 1 := by
  have hle := h.nbFrame_le
  have hone : (1#16).toNat = 1 := rfl
  rw [BitVec.toNat_add, hone, Nat.mod_eq_of_lt (by omega)]

variable (hcursor : s.CursorAt s.pixelsDone)

include hcursor

/-- The state after some steps of a batch that starts where its number puts it. -/
theorem encoded_in_batch {k : Nat} (hk : k ≤ batchSteps s.cfg) :
    Encoded s s.pixelsDone (pixelsPerStep s.cfg * k) (encodeSteps s k) := by
  have hend : s.pixelsDone + s.cfg.batchPixels ≤ _ := batch_end_le h hnb
  have hsteps := Nat.mul_le_mul_left (pixelsPerStep s.cfg) hk
  rw [pixelsPerStep_mul_batchSteps h] at hsteps
  exact encoded_encodeSteps h hcursor (fun _ => mul_batchPixels_mod_two h _) (by omega)

theorem encoded_encodeBatch : Encoded s s.pixelsDone s.cfg.batchPixels (encodeBatch s) := by
  have hall := encoded_in_batch h hnb hcursor le_rfl
  rwa [pixelsPerStep_mul_batchSteps h] at hall

/-- Before each step of a batch the reads it makes are inside the surface (R190). -/
theorem encodeSteps_inside {k : Nat} (hk : k < batchSteps s.cfg) :
    (encodeSteps s k).ptr.toNat < s.cfg.surfBytes ∧
      (s.cfg.ss = 2 → (encodeSteps s k).ptr.toNat + s.cfg.stride < s.cfg.surfBytes) := by
  have hin := encoded_in_batch h hnb hcursor hk.le
  have hend : s.pixelsDone + s.cfg.batchPixels ≤ _ := batch_end_le h hnb
  have hpos : 0 < pixelsPerStep s.cfg := by
    rw [pixelsPerStep]
    split <;> decide
  have hsteps := Nat.mul_lt_mul_of_pos_left hk hpos
  rw [pixelsPerStep_mul_batchSteps h] at hsteps
  rw [hin.cursor.1, hin.only.cfg_eq]
  exact cursorPtr_lt h (by omega)

/-- What a batch leaves of a state in a pass (R185 to R189). -/
theorem produceBatch_eq_passState (hst : s.st = .streaming) : ∃ m,
    produceBatch s = passState s (s.nb.toNat + 1) m true ∧
      HoldsPixels s s.pixelsDone s.cfg.batchPixels s.batch m := by
  obtain ⟨⟨m, p, c, heq⟩, ⟨hptr, hcol⟩, hpixels⟩ := encoded_encodeBatch h hnb hcursor
  have hdone : s.pixelsDone + s.cfg.batchPixels = (s.nb.toNat + 1) * s.cfg.batchPixels :=
    (Nat.succ_mul _ _).symm
  rw [heq, hdone] at hptr hcol
  rw [heq] at hpixels
  refine ⟨m, ?_, hpixels⟩
  rw [produceBatch, heq]
  simp only [closeBatch, passState, toNat_nb_succ h hnb, hst, ← eq_ofNat_of_toNat_eq hptr,
    ← eq_ofNat_of_toNat_eq hcol, ← eq_ofNat_of_toNat_eq (toNat_nb_succ h hnb)]

end

/-! ### The obligations -/

theorem State.Inv.cursorAt {s : State} (h : s.Inv) : s.CursorAt s.pixelsDone := ⟨h.ptr_eq, h.col_eq⟩

theorem exec_batch_of_streaming {s : State} (hfault : s.fault = false) (hst : s.st = .streaming) :
    exec .batch s = .next (produceBatch s) := by
  simp only [exec, execBatch, State.streamingCheck, hst, runCommand_of_clear hfault]

/-- Settles O44: the loop of a batch stores the pixels of the raster from the cursor on. -/
theorem batchEncodesTheNextPixels : Obligations.BatchEncodesTheNextPixels := by
  unfold Obligations.BatchEncodesTheNextPixels
  intro s hinv hfault hst
  have h := admitted_of_wf hinv.cfg_wf
  have hnb := hinv.streaming_nb hst
  obtain ⟨m, heq, hpixels⟩ := produceBatch_eq_passState h hnb hinv.cursorAt hst
  have hchunk := chunkBytes_eq_batchPixels h
  refine ⟨m, ?_, fun i hi => ?_, fun i hi => hpixels.kept i (hchunk ▸ hi)⟩
  · rw [exec_batch_of_streaming hfault hst, heq]
    rfl
  · have hfirst : s.nb.toNat * s.cfg.chunkBytes = 2 * s.pixelsDone := by
      rw [hchunk, State.pixelsDone]
      ring
    rw [hpixels.written i (hchunk ▸ hi), hfirst]

/-- Settles O45: before each step of a batch fewer pixels are produced than the frame has, and after the
last batch all of them. -/
theorem cursorStaysInside : Obligations.CursorStaysInside := by
  unfold Obligations.CursorStaysInside
  refine ⟨fun s hwf hnb hptr hcol k => encodeSteps_inside (admitted_of_wf hwf) hnb ⟨hptr, hcol⟩,
    fun s hinv => ?_⟩
  have h := admitted_of_wf hinv.cfg_wf
  refine ⟨fun hst k => encodeSteps_inside h (hinv.streaming_nb hst) hinv.cursorAt,
    fun q => cursorPtr_lt h, fun hst => ?_, fun hend => ?_⟩
  · have hle : s.pixelsDone + s.cfg.batchPixels ≤ _ := batch_end_le h (hinv.streaming_nb hst)
    have hchunk := h.chunk_pos
    have hpixels := chunkBytes_eq_batchPixels h
    rw [hinv.ptr_eq]
    exact ⟨hle, (cursorPtr_lt h (by omega)).1⟩
  · have hdone : s.pixelsDone = s.cfg.nw * s.cfg.nh := by
      rw [State.pixelsDone, hend, nbFrame_mul_batchPixels h]
    have hcol := hinv.col_eq
    rw [hdone, Nat.mul_mod_right] at hcol
    rw [hinv.ptr_eq, hdone]
    exact ⟨cursorPtr_end h, BitVec.eq_of_toNat_eq hcol⟩

end Sys2Proof.Machine

/-! SUPPORT. The invariant of the machine (spec/10_state.md R48, spec/20_memory.md R55, R60,
spec/43_scanout.md R181 to R190, spec/60_exceptions.md R222): reset meets it, and every effect of a step
keeps it; and the obligations about it. -/

namespace Sys2Proof.Machine

open Sys2Proof

/-! ### Reset (R48) -/

theorem cursorPtr_zero (c : Config) : cursorPtr c 0 = 0 := by simp [cursorPtr]

/-- Settles O20: empty memories, an Idle scan-out with its cursor at the start, no fault, no command in
progress. -/
theorem resetMeetsInvariant : Obligations.ResetMeetsInvariant := by
  unfold Obligations.ResetMeetsInvariant
  intro c hwf
  have hdone : (State.resetFor c).pixelsDone = 0 := Nat.zero_mul _
  exact
    { cfg_wf := hwf
      surf_wf := Memory.wf_nil
      surf_inside := nofun
      batch_wf := Memory.wf_nil
      batch_inside := nofun
      batch_filled := nofun
      ptr_eq := by rw [hdone, cursorPtr_zero]; rfl
      col_eq := by rw [hdone, Nat.zero_mod]; rfl
      idle_nb := fun _ => .inl rfl
      streaming_nb := nofun
      nb_valid := fun hpos => absurd hpos (lt_irrefl 0)
      no_fault_clean := fun _ => ⟨rfl, rfl⟩
      fault_listed := nofun
      hold_ok := trivial }

/-! ### The invariant and the command in progress -/

/-- The invariant, of whatever command is in progress. -/
def State.CoreInv (s : State) : Prop := State.Inv { s with hold := none }

theorem State.Inv.core {s : State} (h : s.Inv) : s.CoreInv := { h with hold_ok := trivial }

theorem State.CoreInv.inv {s : State} (h : s.CoreInv) (hhold : s.HoldOk) : s.Inv :=
  { h with hold_ok := hhold }

theorem State.CoreInv.inv_of_no_hold {s : State} (h : s.CoreInv) (hhold : s.hold = none) : s.Inv :=
  h.inv (by rw [State.HoldOk, hhold]; trivial)

/-! ### Memories inside their ranges -/

/-- A canonical memory that reads like one of a range past the range lists nothing there. -/
theorem inside_of_read_eq {m old : Memory} {n : Nat} (hm : m.wf) (hold : old.wf)
    (hinside : ∀ c ∈ old, c.1 < n) (h : ∀ i, n ≤ i → m.read i = old.read i) : ∀ c ∈ m, c.1 < n := by
  intro c hc
  by_contra hge
  have hread : m.read c.1 = some c.2 := (Memory.read_eq_some_iff hm c.1 c.2).2 hc
  rw [h c.1 (Nat.not_lt.1 hge), Memory.read_eq_some_iff hold] at hread
  exact hge (hinside _ hread)

/-! ### Faults, accesses and drawing -/

theorem faultCode_listed (c : FaultCode) : 1 ≤ c.bits.toNat ∧ c.bits.toNat ≤ 8 := by
  cases c <;> decide

theorem inv_of_raises {s t : State} (h : s.Inv) (hhold : s.hold = none) (hr : Raises s t) : t.Inv := by
  obtain rfl | ⟨-, c, info, rfl⟩ := hr
  · exact h
  · exact State.CoreInv.inv_of_no_hold
      { h with no_fault_clean := nofun, fault_listed := fun _ => faultCode_listed c, hold_ok := trivial }
      hhold

theorem inv_of_hostWrites {s t : State} (h : s.Inv) (hw : HostWrites s t) : t.Inv := by
  obtain ⟨xy, a, b, reads, rfl⟩ := hw
  exact { h with }

theorem inv_of_drawn {s t : State} (h : s.Inv) (hd : Drawn s t) : t.Inv := by
  obtain ⟨-, ⟨m, rfl⟩, hwf, houtside⟩ := hd
  exact { h with
    surf_wf := hwf h.surf_wf
    surf_inside := inside_of_read_eq (hwf h.surf_wf) h.surf_wf h.surf_inside (houtside h.cfg_wf) }

/-! ### Scan-out (R182 to R190) -/

theorem core_beginPass {s : State} (h : s.CoreInv) : (beginPass s).CoreInv := by
  have hdone : (beginPass s).pixelsDone = 0 := Nat.zero_mul _
  exact { h with
    ptr_eq := by
      change (beginPass s).ptr.toNat = cursorPtr s.cfg (beginPass s).pixelsDone
      rw [hdone, cursorPtr_zero]; rfl
    col_eq := by
      change (beginPass s).col.toNat = (beginPass s).pixelsDone % s.cfg.nw
      rw [hdone, Nat.zero_mod]; rfl
    idle_nb := nofun
    streaming_nb := fun _ => nbFrame_pos (admitted_of_wf h.cfg_wf)
    nb_valid := fun hpos => absurd hpos (lt_irrefl 0)
    hold_ok := trivial }

section

variable {s : State} (h : Admitted s.cfg) {k : Nat} (hk : k ≤ s.cfg.nbFrame)

include h hk

theorem passState_nb (m : Memory) (v : Bool) : (passState s k m v).nb.toNat = k := by
  have hle := h.nbFrame_le
  exact Nat.mod_eq_of_lt (by omega)

theorem cursorAt_passState (m : Memory) (v : Bool) :
    (passState s k m v).CursorAt (passState s k m v).pixelsDone := by
  have hdone : (passState s k m v).pixelsDone = k * s.cfg.batchPixels := by
    rw [State.pixelsDone, passState_nb h hk]
    rfl
  have hle : k * s.cfg.batchPixels ≤ s.cfg.nw * s.cfg.nh := by
    rw [← nbFrame_mul_batchPixels h]
    exact Nat.mul_le_mul_right _ hk
  rw [hdone]
  exact cursorAt_setCursor h hle rfl rfl

end

theorem passState_st_eq_idle_iff {s : State} {k : Nat} {m : Memory} {v : Bool} :
    (passState s k m v).st = .idle ↔ k = s.cfg.nbFrame := by
  by_cases hk : k = s.cfg.nbFrame <;> simp [passState, hk]

theorem passState_st_eq_streaming_iff {s : State} {k : Nat} {m : Memory} {v : Bool} :
    (passState s k m v).st = .streaming ↔ k ≠ s.cfg.nbFrame := by
  by_cases hk : k = s.cfg.nbFrame <;> simp [passState, hk]

theorem core_produceBatch {s : State} (h : s.CoreInv) (hst : s.st = .streaming) :
    (produceBatch s).CoreInv := by
  have ha : Admitted s.cfg := admitted_of_wf h.cfg_wf
  have hnb : s.nb.toNat < s.cfg.nbFrame := h.streaming_nb hst
  obtain ⟨m, heq, hpixels⟩ := produceBatch_eq_passState ha hnb ⟨h.ptr_eq, h.col_eq⟩ hst
  have hchunk := chunkBytes_eq_batchPixels ha
  have hbatch : m.wf := hpixels.wf h.batch_wf
  have hfilled : ∀ i < s.cfg.chunkBytes, m.read i ≠ none := fun i hi => by
    rw [hpixels.written i (hchunk ▸ hi)]
    nofun
  have hnb' := passState_nb ha hnb m true
  obtain ⟨hptr, hcol⟩ := cursorAt_passState ha hnb m true
  rw [heq]
  exact { h with
    batch_wf := hbatch
    batch_inside := inside_of_read_eq hbatch h.batch_wf h.batch_inside fun i hi =>
      hpixels.kept i (hchunk ▸ hi)
    batch_filled := fun _ => hfilled
    ptr_eq := hptr
    col_eq := hcol
    idle_nb := fun hidle => .inr (hnb'.trans (passState_st_eq_idle_iff.1 hidle))
    streaming_nb := fun hst' =>
      hnb'.trans_lt (lt_of_le_of_ne hnb (passState_st_eq_streaming_iff.1 hst'))
    nb_valid := fun _ => rfl
    hold_ok := trivial }

/-! ### Going on with a command in progress (R181, R192 to R194) -/

theorem produceBatch_nb_pos {s : State} (h : s.CoreInv) (hst : s.st = .streaming) :
    0 < (produceBatch s).nb.toNat ∧ (produceBatch s).batchValid = true := by
  obtain ⟨m, p, c, heq⟩ := produceBatch_frame s
  have hnb := toNat_nb_succ (s := s) (admitted_of_wf h.cfg_wf) (h.streaming_nb hst)
  rw [heq]
  exact ⟨by rw [hnb]; exact Nat.succ_pos _, rfl⟩

/-- FRAME's loop, in a pass that is not complete only while it streams. -/
theorem inv_frameNext {s : State} (h : s.CoreInv) (hfault : s.fault = false)
    (hst : s.nb.toNat < s.cfg.nbFrame → s.st = .streaming) (failed : Bool) :
    (frameNext s failed).Inv := by
  rw [frameNext]
  split
  next hmore =>
    obtain ⟨hpos, hvalid⟩ := produceBatch_nb_pos h (hst hmore)
    exact { core_produceBatch h (hst hmore) with
      hold_ok := ⟨(produceBatch_fault s).trans hfault, hvalid, hpos⟩ }
  next => exact { h with hold_ok := trivial }

/-- A started pass that is not complete is Streaming. -/
theorem State.Inv.streaming_of_started {s : State} (h : s.Inv) (hpos : 0 < s.nb.toNat)
    (hmore : s.nb.toNat < s.cfg.nbFrame) : s.st = .streaming := by
  cases hst : s.st with
  | streaming => rfl
  | idle =>
    obtain hzero | hend := h.idle_nb hst <;> omega

theorem core_recordAnswer {s : State} (hs : s.Inv) (h : Hold) (a : Answer) :
    (s.recordAnswer h a).CoreInv :=
  { hs with hold_ok := trivial }

theorem inv_answered {s : State} {h : Hold} (hh : s.hold = some h) (hs : s.Inv) (a : Answer) :
    (answered h a s).Inv := by
  have hok := hs.hold_ok
  rw [State.HoldOk, hh] at hok
  cases h with
  | send | addrRow failed => exact { hs with hold_ok := trivial }
  | addrColumn | frameColumn => exact { hs with hold_ok := hok }
  | frameRow failed =>
    rw [answered_frameRow]
    exact inv_frameNext (core_beginPass (core_recordAnswer hs _ a)) hok.1 (fun _ => rfl) _
  | frameData failed =>
    obtain ⟨hfault, -, hpos⟩ := hok
    rw [answered_frameData]
    exact inv_frameNext (core_recordAnswer hs _ a) hfault (hs.streaming_of_started hpos) _

theorem inv_pump {s : State} (h : s.Inv) (p : List (Option Answer)) : (pump p s).Inv :=
  pump_induction (fun _ _ h => { h with }) (fun _ _ a hh h => inv_answered hh h a) p h

/-- A command that may hold at its first Emit may hold at the others. -/
theorem inv_transfer {s : State} (h : s.Inv) {x : Hold}
    (hok : State.HoldOk { s with hold := some x }) : (s.transfer x).Inv :=
  inv_pump (s := { s with hold := some x }) { h with hold_ok := hok } s.port

/-! ### Commands and steps -/

theorem inv_of_completes {s t : State} {i : Instr} (h : s.Inv) (hhold : s.hold = none)
    (hfault : s.fault = false) (hc : Completes s t i) : t.Inv := by
  cases i with
  | clear | fade | scroll d | spr k | sprb k | spr2 k | sprb2 k => exact inv_of_drawn h hc
  | glyph code =>
    obtain ⟨u, found, w, d, hdrawn, rfl⟩ := hc
    exact { inv_of_drawn h hdrawn with }
  | mclr =>
    obtain rfl : t = _ := hc
    exact { h with }
  | madd code =>
    obtain ⟨w, d, found, rfl⟩ := hc
    exact { h with }
  | begin =>
    obtain ⟨-, rfl⟩ := hc
    exact (core_beginPass h.core).inv_of_no_hold hhold
  | batch =>
    obtain ⟨hst, rfl⟩ := hc
    obtain ⟨m, p, c, heq⟩ := produceBatch_frame s
    exact (core_produceBatch h.core hst).inv_of_no_hold (by rw [heq]; exact hhold)
  | send =>
    obtain ⟨hvalid, rfl⟩ := hc
    exact inv_transfer h ⟨hfault, hvalid⟩
  | addr | frame =>
    obtain ⟨hst, rfl⟩ := hc
    exact inv_transfer h ⟨hfault, hst⟩

/-- Settles O21: each effect of a step keeps the invariant. -/
theorem stepKeepsInvariant : Obligations.StepKeepsInvariant := by
  unfold Obligations.StepKeepsInvariant
  intro s t h hstep
  obtain ⟨-, rfl⟩ | ⟨-, rfl⟩ | ⟨hhold, rest, ⟨i, hfault, hc⟩ | ⟨u, hr, hw⟩⟩ := step_effects hstep
  · exact { resetMeetsInvariant s.cfg h.cfg_wf with }
  · exact inv_pump (s := s.samplePin) { h with } s.port
  · exact inv_of_completes (s := s.taken rest) { h with } hhold hfault hc
  · exact inv_of_hostWrites (inv_of_raises (s := s.taken rest) { h with } hhold hr) hw

end Sys2Proof.Machine

/-! SUPPORT. Transfers (spec/43_scanout.md R181, R192 to R194): a silent display port, the encoder beside
the fields a transfer writes, and what the port's answers still to come do not change; and the obligations
about silence. -/

namespace Sys2Proof.Machine

open Sys2Proof

/-! ### A silent port (R181) -/

theorem transfer_of_silence {s : State} (h : Hold) (hport : s.port = [] ∨ ∃ rest, s.port = none :: rest) :
    s.transfer h = { s with hold := some h, port := s.port.tail } := by
  rw [State.transfer, pump_of_silence (h := h) rfl hport]

/-- Settles O52: the first Emit of a transfer, and the Emit of a command in progress, ask a port that does
not answer. -/
theorem silentPortHoldsTheBlock : Obligations.SilentPortHoldsTheBlock := by
  unfold Obligations.SilentPortHoldsTheBlock
  refine fun s hport => ⟨fun p hp hfault hfirst => ?_, fun h hhold hreset => ?_⟩
  · simp only [List.mem_cons, List.not_mem_nil, or_false] at hp
    obtain rfl | rfl | rfl := hp
    · have hcheck := Option.map_eq_none_iff.1 (firstFault_send.symm.trans hfirst)
      rw [exec_send_of_valid hfault (valid_of_batchCheck hcheck), transfer_of_silence _ hport]
    · have hcheck := Option.map_eq_none_iff.1
        ((firstFault_of_no_drawing (i := .addr) rfl rfl nofun).symm.trans hfirst)
      have hexec : exec .addr s = .next (s.transfer .addrColumn) :=
        runCommand_phase_of_idle hfault (idle_of_phaseCheck hcheck) .addr _
      rw [hexec, transfer_of_silence _ hport]
    · have hcheck := Option.map_eq_none_iff.1
        ((firstFault_of_no_drawing (i := .frame) rfl rfl nofun).symm.trans hfirst)
      have hexec : exec .frame s = .next (s.transfer .frameColumn) :=
        runCommand_phase_of_idle hfault (idle_of_phaseCheck hcheck) .frame _
      rw [hexec, transfer_of_silence _ hport]
  · rw [step_of_hold hreset hhold, pump_of_silence (s := s.samplePin) hhold hport]
    rfl

/-! ### The encoder beside a transfer -/

/-- `s` with the fields a transfer writes beside the encoder's: the Emit that holds, the port's answers,
the display log and XFER_FAIL. -/
def State.withTransfer (s : State) (h : Option Hold) (p : List (Option Answer))
    (log : List (DisplayEvent × Answer)) (x : Bool) : State :=
  { s with hold := h, port := p, displayLog := log, xferFail := x }

section

variable (s : State) (h : Option Hold) (p : List (Option Answer)) (log : List (DisplayEvent × Answer))
  (x : Bool)

theorem encode2_withTransfer (n : Nat) :
    encode2 (s.withTransfer h p log x) n = (encode2 s n).withTransfer h p log x := by
  have hadvance : (s.withTransfer h p log x).advance2 = s.advance2.withTransfer h p log x := by
    have hcfg : (s.withTransfer h p log x).cfg = s.cfg := rfl
    have hcol : (s.withTransfer h p log x).col = s.col := rfl
    simp only [State.advance2, hcfg, hcol]
    split <;> rfl
  simp only [encode2, hadvance]
  rfl

theorem encodeSteps_withTransfer (n : Nat) :
    encodeSteps (s.withTransfer h p log x) n = (encodeSteps s n).withTransfer h p log x := by
  induction n with
  | zero => rw [encodeSteps_zero, encodeSteps_zero]
  | succ n ih =>
    have hcfg : (s.withTransfer h p log x).cfg = s.cfg := rfl
    rw [encodeSteps_succ, encodeSteps_succ, ih, hcfg, encode2_withTransfer]
    split <;> rfl

/-- A batch neither reads nor writes what a transfer keeps. -/
theorem produceBatch_withTransfer :
    produceBatch (s.withTransfer h p log x) = (produceBatch s).withTransfer h p log x := by
  have hcfg : (s.withTransfer h p log x).cfg = s.cfg := rfl
  rw [produceBatch, encodeBatch, encodeSteps_withTransfer, hcfg]
  rfl

end

/-! ### Silence only delays (R181) -/

/-- `s` with other answers to come. -/
def State.withPort (s : State) (p : List (Option Answer)) : State := { s with port := p }

theorem produceBatch_withPort (s : State) (p : List (Option Answer)) :
    produceBatch (s.withPort p) = (produceBatch s).withPort p := by
  obtain ⟨m, q, c, heq⟩ := produceBatch_frame s
  have hcommute := produceBatch_withTransfer s s.hold p s.displayLog s.xferFail
  rw [heq] at hcommute ⊢
  exact hcommute

theorem frameNext_withPort (s : State) (p : List (Option Answer)) (failed : Bool) :
    frameNext (s.withPort p) failed = (frameNext s failed).withPort p := by
  have hnb : (s.withPort p).nb = s.nb := rfl
  have hcfg : (s.withPort p).cfg = s.cfg := rfl
  simp only [frameNext, produceBatch_withPort, hnb, hcfg]
  split <;> rfl

theorem answered_withPort (h : Hold) (a : Answer) (s : State) (p : List (Option Answer)) :
    answered h a (s.withPort p) = (answered h a s).withPort p := by
  cases h with
  | send | addrColumn | addrRow failed | frameColumn => rfl
  | frameRow failed => exact frameNext_withPort (beginPass (s.recordAnswer (.frameRow failed) a)) p _
  | frameData failed => exact frameNext_withPort (s.recordAnswer (.frameData failed) a) p _

/-- Going on asks the answers it is given, not those the state still lists. -/
theorem pump_withPort (q : List (Option Answer)) (s : State) (p : List (Option Answer)) :
    pump q (s.withPort p) = pump q s := by
  induction q generalizing s with
  | nil => rfl
  | cons y rest ih =>
    cases hh : s.hold with
    | none =>
      rw [pump_of_no_hold hh, pump_of_no_hold (s := s.withPort p) hh]
      rfl
    | some h =>
      cases y with
      | none =>
        have hsilent : none :: rest = [] ∨ ∃ l, none :: rest = (none : Option Answer) :: l :=
          .inr ⟨rest, rfl⟩
        rw [pump_of_silence hh hsilent, pump_of_silence (s := s.withPort p) hh hsilent]
        rfl
      | some a =>
        rw [pump_of_answer hh, pump_of_answer (s := s.withPort p) hh, answered_withPort, ih]

/-- Settles O53: by induction on the answers before the silence, all of which are used. -/
theorem silenceOnlyDelays : Obligations.SilenceOnlyDelays := by
  unfold Obligations.SilenceOnlyDelays
  intro s before after hholds
  induction before generalizing s with
  | nil =>
    obtain ⟨h, hh⟩ : ∃ h, s.hold = some h := Option.ne_none_iff_exists'.1 hholds
    rw [List.map_nil, List.nil_append, List.nil_append, pump_of_silence hh (.inr ⟨after, rfl⟩)]
    exact pump_withPort after s after
  | cons a before ih =>
    cases hh : s.hold with
    | none =>
      rw [pump_of_no_hold hh] at hholds
      exact absurd hh hholds
    | some h =>
      rw [List.map_cons, pump_of_answer hh] at hholds
      rw [List.map_cons, List.cons_append, List.cons_append, pump_of_answer hh, pump_of_answer hh]
      exact ih _ hholds

end Sys2Proof.Machine

/-! SUPPORT. FRAME and its command sequence (spec/43_scanout.md R189, R191, R194, R195): the batches of
a pass, and the two ways to run them as loops over the display port's answers; and the obligations about
them. -/

namespace Sys2Proof.Machine

open Sys2Proof

/-! ### The batches of a pass (R185 to R189) -/

/-- `s` after BEGIN and `n` batches. -/
def batches (s : State) (n : Nat) : State := produceBatch^[n] (beginPass s)

theorem batches_succ (s : State) (n : Nat) : batches s (n + 1) = produceBatch (batches s n) :=
  Function.iterate_succ_apply' ..

section

variable {s : State} (h : Admitted s.cfg)

include h

theorem beginPass_eq_passState : beginPass s = passState s 0 s.batch s.batchValid := by
  have hne : 0 ≠ s.cfg.nbFrame := (nbFrame_pos h).ne
  rw [passState, if_neg hne, Nat.zero_mul, cursorPtr_zero, Nat.zero_mod]
  rfl

/-- A batch takes a pass from `k` batches to `k + 1`, and fills the buffer with chunk `k`. -/
theorem produceBatch_passState {k : Nat} (hk : k < s.cfg.nbFrame) (m : Memory) (v : Bool) :
    ∃ m', produceBatch (passState s k m v) = passState s (k + 1) m' true ∧
      (∀ i < s.cfg.chunkBytes, m'.read i = some (frameByte s (k * s.cfg.chunkBytes + i))) ∧
      ∀ i, s.cfg.chunkBytes ≤ i → m'.read i = m.read i := by
  have hnb := passState_nb h hk.le m v
  have hchunk := chunkBytes_eq_batchPixels h
  have hfirst : 2 * (passState s k m v).pixelsDone = k * s.cfg.chunkBytes := by
    rw [State.pixelsDone, hnb, hchunk]
    exact Nat.mul_left_comm 2 k _
  obtain ⟨m', heq, hpixels⟩ := produceBatch_eq_passState (s := passState s k m v) h
    (hnb.trans_lt hk) (cursorAt_passState h hk.le m v) (passState_st_eq_streaming_iff.2 hk.ne)
  refine ⟨m', ?_, fun i hi => ?_, fun i hi => hpixels.kept i (hchunk ▸ hi)⟩
  · rw [heq, hnb]
    rfl
  · rw [hpixels.written i (hchunk ▸ hi), hfirst]
    rfl

/-- After `k` batches the buffer holds the last of them, if any. -/
theorem batches_eq_passState {k : Nat} (hk : k ≤ s.cfg.nbFrame) :
    ∃ m v, batches s k = passState s k m v ∧
      (0 < k → v = true ∧
        ∀ i < s.cfg.chunkBytes, m.read i = some (frameByte s ((k - 1) * s.cfg.chunkBytes + i))) ∧
      ∀ i, s.cfg.chunkBytes ≤ i → m.read i = s.batch.read i := by
  induction k with
  | zero => exact ⟨_, _, beginPass_eq_passState h, nofun, fun _ _ => rfl⟩
  | succ k ih =>
    obtain ⟨m, v, heq, -, hkept⟩ := ih (Nat.le_of_succ_le hk)
    obtain ⟨m', heq', hwritten, hkept'⟩ := produceBatch_passState h hk m v
    refine ⟨m', true, by rw [batches_succ, heq, heq'], fun _ => ⟨rfl, hwritten⟩, fun i hi => ?_⟩
    rw [hkept' i hi, hkept i hi]

theorem batches_nb {k : Nat} (hk : k ≤ s.cfg.nbFrame) : (batches s k).nb.toNat = k := by
  obtain ⟨m, v, heq, -⟩ := batches_eq_passState h hk
  rw [heq, passState_nb h hk]

theorem batches_cfg {k : Nat} (hk : k ≤ s.cfg.nbFrame) : (batches s k).cfg = s.cfg := by
  obtain ⟨m, v, heq, -⟩ := batches_eq_passState h hk
  rw [heq]
  rfl

theorem batches_fault {k : Nat} (hk : k ≤ s.cfg.nbFrame) : (batches s k).fault = s.fault := by
  obtain ⟨m, v, heq, -⟩ := batches_eq_passState h hk
  rw [heq]
  rfl

theorem batches_st {k : Nat} (hk : k < s.cfg.nbFrame) : (batches s k).st = .streaming := by
  obtain ⟨m, v, heq, -⟩ := batches_eq_passState h hk.le
  rw [heq]
  exact passState_st_eq_streaming_iff.2 hk.ne

theorem batches_succ_batchValid {k : Nat} (hk : k < s.cfg.nbFrame) :
    (batches s (k + 1)).batchValid = true := by
  obtain ⟨m, v, heq, hlast, -⟩ := batches_eq_passState h hk
  rw [heq]
  exact (hlast k.succ_pos).1

/-- The payload after batch `k` is chunk `k` of the raster (R189). -/
theorem batchBytes_batches_succ {k : Nat} (hk : k < s.cfg.nbFrame) :
    (batches s (k + 1)).batchBytes = frameChunk s k := by
  obtain ⟨m, v, heq, hlast, -⟩ := batches_eq_passState h hk
  obtain ⟨-, hwritten⟩ := hlast k.succ_pos
  rw [heq, State.batchBytes, frameChunk]
  refine List.map_congr_left fun i hi => ?_
  have hread : (passState s (k + 1) m v).batch.read i = _ := hwritten i (List.mem_range.1 hi)
  rw [State.batchByte, hread, Option.getD_some]
  rfl

/-- The complete pass: Idle, with the cursor at the end of the surface (R187, R190). -/
theorem batches_nbFrame_eq : ∃ m,
    batches s s.cfg.nbFrame = { s with
      batch := m
      batchValid := true
      nb := BitVec.ofNat 16 s.cfg.nbFrame
      st := .idle
      ptr := BitVec.ofNat 24 s.cfg.surfBytes
      col := 0#16 } ∧
    (∀ i < s.cfg.chunkBytes,
      m.read i = some (frameByte s ((s.cfg.nbFrame - 1) * s.cfg.chunkBytes + i))) ∧
    ∀ i, s.cfg.chunkBytes ≤ i → m.read i = s.batch.read i := by
  obtain ⟨m, v, heq, hlast, hkept⟩ := batches_eq_passState h le_rfl
  obtain ⟨rfl, hwritten⟩ := hlast (nbFrame_pos h)
  refine ⟨m, ?_, hwritten, hkept⟩
  rw [heq, passState, if_pos rfl, nbFrame_mul_batchPixels h, cursorPtr_end h, Nat.mul_mod_right]

end

/-! ### The display log of a pass (R180, R181) -/

/-- What the display log gains when batches `j`, `j + 1`, … of a pass are sent and answered. -/
def batchLog (s : State) (j : Nat) (answers : List Answer) : List (DisplayEvent × Answer) :=
  ((List.range' j answers.length).map fun k => DisplayEvent.data (batches s (k + 1)).batchBytes).zip
    answers

@[simp] theorem batchLog_nil (s : State) (j : Nat) : batchLog s j [] = [] := List.zip_nil_right

theorem batchLog_cons (s : State) (j : Nat) (a : Answer) (answers : List Answer) :
    batchLog s j (a :: answers) =
      (.data (batches s (j + 1)).batchBytes, a) :: batchLog s (j + 1) answers := rfl

/-- A whole pass sends the raster, one chunk an event (R189). -/
theorem batchLog_eq_frameChunks {s : State} (h : Admitted s.cfg) {answers : List Answer}
    (hlength : answers.length = s.cfg.nbFrame) :
    batchLog s 0 answers =
      ((List.range s.cfg.nbFrame).map fun k => DisplayEvent.data (frameChunk s k)).zip answers := by
  rw [batchLog, hlength, ← List.range_eq_range']
  congr 1
  refine List.map_congr_left fun k hk => ?_
  rw [batchBytes_batches_succ h (List.mem_range.1 hk)]

/-! ### FRAME (R194) -/

section

variable {s : State} (h : Admitted s.cfg)

include h

theorem frameNext_batches {j : Nat} (hj : j < s.cfg.nbFrame) (hold : Option Hold)
    (p : List (Option Answer)) (log : List (DisplayEvent × Answer)) (x failed : Bool) :
    frameNext ((batches s j).withTransfer hold p log x) failed =
      (batches s (j + 1)).withTransfer (some (.frameData failed)) p log x := by
  have hmore : ((batches s j).withTransfer hold p log x).nb.toNat <
      ((batches s j).withTransfer hold p log x).cfg.nbFrame := by
    change (batches s j).nb.toNat < (batches s j).cfg.nbFrame
    rwa [batches_nb h hj.le, batches_cfg h hj.le]
  rw [frameNext, if_pos hmore, produceBatch_withTransfer, ← batches_succ]
  rfl

theorem frameNext_batches_nbFrame (hold : Option Hold) (p : List (Option Answer))
    (log : List (DisplayEvent × Answer)) (x failed : Bool) :
    frameNext ((batches s s.cfg.nbFrame).withTransfer hold p log x) failed =
      (batches s s.cfg.nbFrame).withTransfer none p log failed := by
  have hdone : ¬ ((batches s s.cfg.nbFrame).withTransfer hold p log x).nb.toNat <
      ((batches s s.cfg.nbFrame).withTransfer hold p log x).cfg.nbFrame := by
    change ¬ (batches s s.cfg.nbFrame).nb.toNat < (batches s s.cfg.nbFrame).cfg.nbFrame
    rw [batches_nb h le_rfl, batches_cfg h le_rfl]
    exact lt_irrefl _
  rw [frameNext, if_neg hdone]
  rfl

/-- FRAME's loop from batch `j` on, one answer a batch. -/
theorem pump_frameNext {answers : List Answer} {j : Nat} (hj : j + answers.length = s.cfg.nbFrame)
    (hold : Option Hold) (p rest : List (Option Answer)) (log : List (DisplayEvent × Answer))
    (x failed : Bool) :
    pump (answers.map some ++ rest) (frameNext ((batches s j).withTransfer hold p log x) failed) =
      (batches s s.cfg.nbFrame).withTransfer none rest (log ++ batchLog s j answers)
        (failed || answers.any Answer.failed) := by
  induction answers generalizing j hold p log x failed with
  | nil =>
    obtain rfl : j = s.cfg.nbFrame := hj
    rw [frameNext_batches_nbFrame h, batchLog_nil, List.append_nil, List.any_nil, Bool.or_false]
    exact pump_of_no_hold rfl rest
  | cons a answers ih =>
    rw [List.length_cons] at hj
    have hmore : j < s.cfg.nbFrame := by omega
    have hlog : answered (.frameData failed) a
        ((batches s (j + 1)).withTransfer (some (.frameData failed)) p log x) =
          frameNext ((batches s (j + 1)).withTransfer (some (.frameData failed)) p
            (log ++ [(.data (batches s (j + 1)).batchBytes, a)]) x) (failed || a.failed) := rfl
    rw [frameNext_batches h hmore, List.map_cons, List.cons_append,
      pump_of_answer (h := .frameData failed) rfl, hlog, ih (by omega), batchLog_cons, List.append_assoc,
      List.singleton_append, Bool.or_assoc, List.any_cons]

/-- The two range events of FRAME and ADDR, with their answers. -/
def handshakeLog (c : Config) (r1 r2 : Answer) : List (DisplayEvent × Answer) :=
  [(.setColumnRange 0 (c.nw - 1), r1), (.setRowRange 0 (c.nh - 1), r2)]

theorem exec_frame_of_answers (hs : s.Composing) {r1 r2 : Answer} {answers : List Answer}
    {rest : List (Option Answer)} (hlength : answers.length = s.cfg.nbFrame)
    (hport : s.port = some r1 :: some r2 :: (answers.map some ++ rest)) :
    exec .frame s = .next ((batches s s.cfg.nbFrame).withTransfer none rest
      (s.displayLog ++ handshakeLog s.cfg r1 r2 ++ batchLog s 0 answers)
      (r1.failed || r2.failed || answers.any Answer.failed)) := by
  have hexec : exec .frame s = .next (s.transfer .frameColumn) :=
    runCommand_phase_of_idle hs.1 hs.2 .frame _
  have hstart : ∀ p, answered (.frameRow r1.failed) r2
      (answered .frameColumn r1 { s with hold := some .frameColumn, port := p }) =
        frameNext ((batches s 0).withTransfer (some (.frameRow r1.failed)) p
          (s.displayLog ++ [(.setColumnRange 0 (s.cfg.nw - 1), r1)] ++
            [(.setRowRange 0 (s.cfg.nh - 1), r2)]) s.xferFail) (r1.failed || r2.failed) := fun _ => rfl
  rw [hexec, State.transfer, hport, pump_of_answer (h := .frameColumn) rfl,
    pump_of_answer (h := .frameRow r1.failed) rfl, hstart, pump_frameNext h (by omega),
    List.append_assoc s.displayLog]
  rfl

end

theorem any_failed_eq (answers : List Answer) :
    answers.any Answer.failed = decide (.fail ∈ answers) := by
  rw [Bool.eq_iff_iff]
  simp

/-- Settles O50: FRAME is the handshake and the loop of its batches, and the batches send the raster. -/
theorem frameTransfersTheRaster : Obligations.FrameTransfersTheRaster := by
  unfold Obligations.FrameTransfersTheRaster
  intro s answers rest hwf hs hhold hlength hport
  have h := admitted_of_wf hwf
  obtain _ | ⟨r1, _ | ⟨r2, answers⟩⟩ := answers
  · cases hlength
  · cases hlength
  · have hlength' : answers.length = s.cfg.nbFrame := by simpa using hlength
    have hfail : (r1.failed || r2.failed || answers.any Answer.failed) =
        decide (.fail ∈ r1 :: r2 :: answers) := by
      rw [← any_failed_eq, List.any_cons, List.any_cons, Bool.or_assoc]
    obtain ⟨m, heq, hwritten, hkept⟩ := batches_nbFrame_eq h
    refine ⟨m, ?_, hwritten, hkept⟩
    rw [exec_frame_of_answers h hs hlength' hport, hfail, batchLog_eq_frameChunks h hlength', heq,
      List.append_assoc, ← hhold, ← hs.2]
    rfl

/-! ### The command sequence (R195) -/

/-- BATCH and SEND of each batch of a pass. -/
def batchSends (n : Nat) : List Instr := (List.replicate n [Instr.batch, Instr.send]).flatten

theorem batchSends_succ (n : Nat) : batchSends (n + 1) = .batch :: .send :: batchSends n := by
  rw [batchSends, List.replicate_succ, List.flatten_cons]
  rfl

section

variable {s : State} (h : Admitted s.cfg) (hfault : s.fault = false)

include h hfault

/-- One round of the sequence: the next batch, sent and answered. -/
theorem exec_batch_send {j : Nat} (hj : j < s.cfg.nbFrame) (a : Answer) (rest : List (Option Answer))
    (log : List (DisplayEvent × Answer)) (x : Bool) :
    exec .batch ((batches s j).withTransfer none (some a :: rest) log x) =
        .next ((batches s (j + 1)).withTransfer none (some a :: rest) log x) ∧
      exec .send ((batches s (j + 1)).withTransfer none (some a :: rest) log x) =
        .next ((batches s (j + 1)).withTransfer none rest
          (log ++ [(.data (batches s (j + 1)).batchBytes, a)]) a.failed) := by
  constructor
  · have hclean : ((batches s j).withTransfer none (some a :: rest) log x).fault = false :=
      (batches_fault h hj.le).trans hfault
    rw [exec_batch_of_streaming hclean (batches_st h hj), produceBatch_withTransfer, ← batches_succ]
  · have hclean : ((batches s (j + 1)).withTransfer none (some a :: rest) log x).fault = false :=
      (batches_fault h hj).trans hfault
    rw [exec_send_of_valid hclean (batches_succ_batchValid h hj), transfer_send_of_answer rfl]
    rfl

theorem execAll_batchSends {answers : List Answer} {j : Nat}
    (hj : j + answers.length = s.cfg.nbFrame) (rest : List (Option Answer))
    (log : List (DisplayEvent × Answer)) (x : Bool) :
    execAll (batchSends answers.length)
        ((batches s j).withTransfer none (answers.map some ++ rest) log x) =
      some ((batches s s.cfg.nbFrame).withTransfer none rest (log ++ batchLog s j answers)
        ((answers.map Answer.failed).getLastD x)) := by
  induction answers generalizing j log x with
  | nil =>
    obtain rfl : j = s.cfg.nbFrame := hj
    rw [batchLog_nil, List.append_nil]
    rfl
  | cons a answers ih =>
    rw [List.length_cons] at hj ⊢
    obtain ⟨hbatch, hsend⟩ :=
      exec_batch_send h hfault (j := j) (by omega) a (answers.map some ++ rest) log x
    rw [batchSends_succ, List.map_cons, List.cons_append, execAll_cons hbatch, execAll_cons hsend,
      ih (by omega), batchLog_cons, List.append_assoc, List.singleton_append, List.map_cons,
      List.getLastD_cons]

end

/-- ADDR and BEGIN leave a pass that is about to start. -/
theorem execAll_addr_begin {s : State} (hs : s.Composing) {r1 r2 : Answer} {p : List (Option Answer)}
    (hport : s.port = some r1 :: some r2 :: p) (rest : List Instr) :
    execAll (.addr :: .begin :: rest) s =
      execAll rest ((batches s 0).withTransfer none p (s.displayLog ++ handshakeLog s.cfg r1 r2)
        (r1.failed || r2.failed)) := by
  have haddr : exec .addr s = .next (s.transfer .addrColumn) :=
    runCommand_phase_of_idle hs.1 hs.2 .addr _
  have hbegin : exec .begin (s.transfer .addrColumn) = .next (beginPass (s.transfer .addrColumn)) :=
    runCommand_phase_of_idle ((transferOnly_transfer s _).fault.trans hs.1)
      (transfer_st_of_idle hs.2 rfl) .begin _
  rw [execAll_cons haddr, execAll_cons hbegin, transfer_addr_of_answers hport, List.append_assoc]
  rfl

theorem execAll_sequence_of_answers {s : State} (h : Admitted s.cfg) (hs : s.Composing)
    {r1 r2 : Answer} {answers : List Answer} {rest : List (Option Answer)}
    (hlength : answers.length = s.cfg.nbFrame)
    (hport : s.port = some r1 :: some r2 :: (answers.map some ++ rest)) :
    execAll (.addr :: .begin :: batchSends s.cfg.nbFrame) s =
      some ((batches s s.cfg.nbFrame).withTransfer none rest
        (s.displayLog ++ handshakeLog s.cfg r1 r2 ++ batchLog s 0 answers)
        ((answers.map Answer.failed).getLastD (r1.failed || r2.failed))) := by
  have hloop := execAll_batchSends h hs.1 (answers := answers) (j := 0) (by omega) rest
    (s.displayLog ++ handshakeLog s.cfg r1 r2) (r1.failed || r2.failed)
  rw [execAll_addr_begin hs hport, ← hloop, hlength]

theorem getLastD_failed_eq {answers : List Answer} (hne : answers ≠ []) (x : Bool) :
    (answers.map Answer.failed).getLastD x = decide (answers.getLast? = some .fail) := by
  obtain ⟨init, last, rfl⟩ := List.eq_nil_or_concat answers |>.resolve_left hne
  simp

/-- Settles O51: both are the batches of one pass beside the same log; only the last failure differs. -/
theorem frameEqualsItsCommandSequence : Obligations.FrameEqualsItsCommandSequence := by
  unfold Obligations.FrameEqualsItsCommandSequence
  intro s answers rest hwf hs _ hlength hport
  have h := admitted_of_wf hwf
  obtain _ | ⟨r1, _ | ⟨r2, answers⟩⟩ := answers
  · cases hlength
  · cases hlength
  · have hlength' : answers.length = s.cfg.nbFrame := by simpa using hlength
    have hne : answers ≠ [] := by
      rintro rfl
      exact (nbFrame_pos h).ne hlength'
    refine ⟨_, _, exec_frame_of_answers h hs hlength' hport,
      execAll_sequence_of_answers h hs hlength' hport, rfl, ?_⟩
    obtain ⟨a, answers, rfl⟩ := List.exists_cons_of_ne_nil hne
    rw [List.getLast?_cons_cons, List.getLast?_cons_cons]
    exact getLastD_failed_eq hne (r1.failed || r2.failed)

end Sys2Proof.Machine
